-- ==== Sys2Proof/Word.lean ====
section
/-! DEFINITION. Bytes, words and groups of four: the plain data every other file is built from. -/

namespace Sys2Proof

/-- One byte on the link, in the profile memory or on the logger port. -/
abbrev Byte := BitVec 8

/-- One 16-bit word of the result buffer, of the logger port or of a measurement. -/
abbrev Word := BitVec 16

/-- Four like things, one per channel 0..3 (or per temperature band 0..3). -/
structure Quad (α : Type) where
  c0 : α
  c1 : α
  c2 : α
  c3 : α
deriving DecidableEq, Repr

/-- The member of number `k`. -/
def Quad.get {α : Type} (q : Quad α) (k : Fin 4) : α :=
  match k with
  | 0 => q.c0
  | 1 => q.c1
  | 2 => q.c2
  | 3 => q.c3

/-- The group with member `k` replaced. -/
def Quad.set {α : Type} (q : Quad α) (k : Fin 4) (a : α) : Quad α :=
  match k with
  | 0 => { q with c0 := a }
  | 1 => { q with c1 := a }
  | 2 => { q with c2 := a }
  | 3 => { q with c3 := a }

/-- The same value four times. -/
def Quad.same {α : Type} (a : α) : Quad α := ⟨a, a, a, a⟩

/-- The group whose member `k` is `f k`. -/
def Quad.tab {α : Type} (f : Fin 4 → α) : Quad α := ⟨f 0, f 1, f 2, f 3⟩

/-- Every member changed by `f`. -/
def Quad.map {α β : Type} (f : α → β) (q : Quad α) : Quad β := ⟨f q.c0, f q.c1, f q.c2, f q.c3⟩

/-- The members in the order 0, 1, 2, 3. -/
def Quad.toList {α : Type} (q : Quad α) : List α := [q.c0, q.c1, q.c2, q.c3]

@[simp] theorem Quad.get_tab {α : Type} (f : Fin 4 → α) (k : Fin 4) : (Quad.tab f).get k = f k := by
  fin_cases k <;> rfl

@[simp] theorem Quad.get_map {α β : Type} (f : α → β) (q : Quad α) (k : Fin 4) :
    (q.map f).get k = f (q.get k) := by
  fin_cases k <;> rfl

@[simp] theorem Quad.get_same {α : Type} (a : α) (k : Fin 4) : (Quad.same a).get k = a := by
  fin_cases k <;> rfl

@[simp] theorem Quad.get_set_self {α : Type} (q : Quad α) (k : Fin 4) (a : α) : (q.set k a).get k = a := by
  fin_cases k <;> rfl

theorem Quad.get_set_ne {α : Type} (q : Quad α) (k j : Fin 4) (a : α) (h : j ≠ k) :
    (q.set k a).get j = q.get j := by
  fin_cases k <;> fin_cases j <;> first | rfl | exact absurd rfl h

/-- Two groups with equal members are equal. -/
theorem Quad.ext_get {α : Type} (p q : Quad α) (h : ∀ k, p.get k = q.get k) : p = q := by
  obtain ⟨a, b, c, d⟩ := p
  obtain ⟨a', b', c', d'⟩ := q
  have h0 : a = a' := h 0
  have h1 : b = b' := h 1
  have h2 : c = c' := h 2
  have h3 : d = d' := h 3
  rw [h0, h1, h2, h3]

end Sys2Proof
end

