-- ==== Sys2Proof/Config.lean ====
section
/-! DEFINITION. What the part fixes (limits named by the rules) and the free values the spec leaves open. -/

namespace Sys2Proof.Config

/-- Clock ticks of the 16.000 MHz crystal in one microsecond (section 1.9). -/
def ticksPerUs : Nat := 16
/-- Clock ticks in one millisecond. -/
def ticksPerMs : Nat := 16000
/-- Slots in a round (R1). -/
def slotsPerRound : Nat := 64
/-- The slot after whose predecessor's end the walk starts: walk start is the end of slot 56 (R1). -/
def walkStartSlot : Nat := 57
/-- Lock count at which ACQUIRE becomes LOCKED (R12). -/
def lockLimit : Nat := 32
/-- Missed-mark count of the coast limit and of the return to SEARCH (R13, R15). -/
def missedLimit : Nat := 16
/-- Missed-mark count from which a takeover is allowed (R17). -/
def takeoverMissed : Nat := 2
/-- Consecutive readback failures of the own mark that end the pacer role (R18). -/
def claimLimit : Nat := 2
/-- Round starts added to the station number for the listen count (R10). -/
def listenBase : Nat := 4
/-- Clean rounds that clear caution (R53). -/
def cleanLimit : Nat := 2
/-- Omission count that islands the station (R60). -/
def omissionLimit : Nat := 2
/-- Round starts of the island dwell (R63). -/
def dwellLimit : Nat := 4
/-- Consecutive share readback failures that exclude the station (R64). -/
def conflictLimit : Nat := 3
/-- Largest demand or grant of a channel, in quanta (section 1.5). -/
def maxQuanta : Nat := 200
/-- Largest current code (section 1.5). -/
def maxCurrent : Nat := 30000
/-- Saturation of the 16-bit counts. -/
def max16 : Nat := 65535
/-- Saturation of the 32-bit counts. -/
def max32 : Nat := 4294967295
/-- Saturation of the 64-bit accumulators (R114). -/
def max64 : Nat := 18446744073709551615
/-- Consecutive samples that change a filtered level (R78, R79). -/
def filterLimit : Nat := 3
/-- Persistence of OVERVOLTAGE, UNDERVOLTAGE and OVERTEMP (R92). -/
def limitPersistence : Nat := 3
/-- Persistence of CURRENT_DEVIATION (R92). -/
def deviationPersistence : Nat := 20
/-- Persistence of a VOLTAGE, TEMPERATURE or CURRENT_MAG term (R113). -/
def termPersistence : Nat := 3
/-- Charge units of 10 mA for 1 ms in one mAh (R90, R120). -/
def unitsPerMah : Nat := 360000
/-- Energy units in one Wh (R120). -/
def unitsPerWh : Nat := 36000000000
/-- Largest value of a capture accumulator (R155). -/
def captureTop : Nat := 1023
/-- Entries one queue holds (R156). -/
def queueDepth : Nat := 4
/-- Words of one half of the result RAM (R158). -/
def halfWords : Nat := 4096
/-- Words of the result RAM (R158). -/
def ramWords : Nat := 8192
/-- Bytes of the profile header (R166). -/
def headerBytes : Nat := 6
/-- Least and largest length of a profile image (R166). -/
def minProfile : Nat := 253
def maxProfile : Nat := 8192
/-- Format code of a profile (R167). -/
def formatCode : Nat := 0x0A31

/-- FREE VALUE. The band read before the first control period after READY has set one (R74: "The band has no
value until the first control period"). Applied to the channel number. -/
opaque freeBand : Fin 4 → Fin 4

/-- FREE VALUE. When one failed readback of the own mark reaches the claim limit and the coast limit together (R18),
the pacer flag is cleared once and the spec does not say which detail its PACER_OFF entry carries: CLAIM_FAILED when
true, COAST_LIMIT when false. Applied to the model's counter of free values. -/
opaque freeClaimDetail : Nat → Bool

/-- FREE VALUE. When loss of lock and the second omission round meet at one round start (R60, R61), the cause of the
islanding: OMITTED when true, LOCK_LOST when false. Applied to the model's counter of free values. -/
opaque freeIslandOmitted : Nat → Bool

/-- FREE VALUE. Whether the walk unit's entries of one event stand before membership control's in the station queue
(R73: "in either order"). Applied to the model's counter of free values. -/
opaque freeWalkFirst : Nat → Bool

end Sys2Proof.Config
end

