-- ==== Sys2Proof/Syntax.lean ====
section
/-! DEFINITION. The commands the block takes: one constructor of `Instr` per row of spec/opcode_table.json, and the
data they carry (frames as R171 lays them out, raw samples, logger port words). -/

namespace Sys2Proof

/-- A MARK frame without its kind byte and check (R171). -/
structure MarkFrame where
  station : Byte
  round : Byte
  digest : Word
deriving DecidableEq, Repr

/-- One channel block of a SHARE frame (R171): the demand, the class in bits 7..4 and the reported state in bits 3..0. -/
structure ShareBlock where
  demand : Word
  cls : BitVec 4
  state : BitVec 4
deriving DecidableEq, Repr

/-- A SHARE frame without its kind byte and check (R171). Bit `n - 1` of `map` is station `n`. -/
structure ShareFrame where
  station : Byte
  round : Byte
  member : Byte
  digest : Word
  map : BitVec 48
  blocks : Quad ShareBlock
  last : Word
deriving DecidableEq, Repr

/-- A CONSOLE frame without its kind byte, its command code and its check (R171); the row says the command. -/
structure ConsoleFrame where
  console : Byte
  station : Byte
  channel : Byte
  arg : Word
deriving DecidableEq, Repr

/-- When a frame on the link was received, in clock ticks of 1/16 microsecond: the phase of the receiver's round
timer at which the frame's check completed, and the time since its first byte began (R4). -/
structure Arrival where
  now : Nat
  elapsed : Nat
deriving DecidableEq, Repr

/-- The raw inputs of one channel for one control period (R75): pack voltage, current and temperature words, one
sample of the contactor feedback (true: closed) and of the converter fault input (true: asserted), and whether the
stop line monitor's update of the period came before this channel's period (R79: either order). -/
structure ChannelInput where
  v : Word
  i : Word
  t : Word
  feedback : Bool
  fault : Bool
  afterMonitor : Bool
deriving DecidableEq, Repr

/-- The raw inputs of one control period: one sample of the hall stop line (true: asserted) and the four channels'. -/
structure PeriodInput where
  stopLine : Bool
  channels : Quad ChannelInput
deriving DecidableEq, Repr

/-- What makes a round start (R2): the timer's own rollover, or the re-phase of a received mark. -/
inductive RoundCause where
  | rollover
  | mark (f : MarkFrame) (arr : Arrival)
deriving DecidableEq, Repr

/-- What raises the missed-mark count (R14, R18): a passed mark window, or the readback of the own mark. -/
inductive MissCause where
  | windowPasses
  | readback (bytes : List Byte)
deriving DecidableEq, Repr

/-- The commands: the rows of spec/opcode_table.json, in the table's order. -/
inductive Instr where
  /-- RESET (R166). -/
  | reset
  /-- PROFILE_HEADER_READ (R166): the six header bytes. -/
  | profileHeaderRead (header : List Byte)
  /-- PROFILE_READ_COMPLETE (R167): the bytes after the header. -/
  | profileReadComplete (rest : List Byte)
  /-- CONTROL_PERIOD (R75). -/
  | controlPeriod (inp : PeriodInput)
  /-- STOP_LEVEL_CHANGE (R79): a control period in which the filtered hall stop level changes. -/
  | stopLevelChange (inp : PeriodInput)
  /-- FILTER_LEVEL_CHANGE (R78): a control period in which a channel's filtered level changes. -/
  | filterLevelChange (inp : PeriodInput)
  /-- PERSISTENCE_DETECT (R92): a control period in which a timed cause is detected. -/
  | persistenceDetect (inp : PeriodInput)
  /-- CLOSE_LIMIT (R82): a control period in which a close timer reaches its limit. -/
  | closeLimit (inp : PeriodInput)
  /-- OPEN_LIMIT (R89): a control period in which an open timer reaches its limit. -/
  | openLimit (inp : PeriodInput)
  /-- FRAME_BOUNDARY (R136): the control period at frame position 0. -/
  | frameBoundary (inp : PeriodInput)
  /-- SAMPLE_CAPTURE (R155): a control period in which a capture accumulator passes 1023. -/
  | sampleCapture (inp : PeriodInput)
  /-- ROUND_START (R1): the round timer's own rollover. -/
  | roundStart
  /-- SELF_START (R11): the rollover at which the listen count reaches 0. -/
  | selfStart
  /-- CAUTION_OFF (R53): a round start at which the clean-round count reaches 2. -/
  | cautionOff (cause : RoundCause)
  /-- ISLANDED_OMITTED (R60): a round start at which the omission count reaches 2. -/
  | islandedOmitted (cause : RoundCause)
  /-- REJOIN (R63): a round start at which the dwell is complete and the station LOCKED. -/
  | rejoin (cause : RoundCause)
  /-- DEMAND_LATCH (R23): the start of slot n - 1. -/
  | demandLatch
  /-- SHARE_FRAME_SEND (R24): the start of slot n. -/
  | shareFrameSend
  /-- WALK_START (R41): the end of slot 56. -/
  | walkStart
  /-- WALK_COMPLETION (R47). -/
  | walkCompletion
  /-- MARK_RECEIVED (R8): a checked MARK. -/
  | markReceived (f : MarkFrame) (arr : Arrival)
  /-- ENTER_LOCKED (R12): a checked MARK with which the lock count reaches 32. -/
  | enterLocked (f : MarkFrame) (arr : Arrival)
  /-- MARK_WINDOW_PASSES (R8). -/
  | markWindowPasses
  /-- COAST_LIMIT (R15): the event with which the missed-mark count reaches 16 in LOCKED. -/
  | coastLimit (cause : MissCause)
  /-- RETURN_TO_SEARCH (R13): the passed window with which the missed-mark count reaches 16 in ACQUIRE. -/
  | returnToSearch
  /-- MARK_READBACK (R18): the bytes read back from the line for the own MARK. -/
  | markReadback (bytes : List Byte)
  /-- CLAIM_FAILED (R18): the readback with which the claim-failure count reaches 2. -/
  | claimFailed (bytes : List Byte)
  /-- SHARE_READBACK (R25): the bytes read back from the line for the own SHARE frame. -/
  | shareReadback (bytes : List Byte)
  /-- NUMBER_CONFLICT (R64): the readback with which the readback-failure count reaches 3. -/
  | numberConflict (bytes : List Byte)
  /-- SHARE_RECEIVED (R29): a checked SHARE frame. -/
  | shareReceived (f : ShareFrame) (arr : Arrival)
  /-- FRAME_CHECK_FAILED (R4): the bytes of a frame that fails its check. -/
  | frameCheckFailed (bytes : List Byte)
  /-- START (R147). -/
  | start (f : ConsoleFrame) (arr : Arrival)
  /-- ABORT (R148). -/
  | abort (f : ConsoleFrame) (arr : Arrival)
  /-- FORCE_STOP (R148). -/
  | forceStop (f : ConsoleFrame) (arr : Arrival)
  /-- HOLD (R150). -/
  | hold (f : ConsoleFrame) (arr : Arrival)
  /-- RESUME (R150). -/
  | resume (f : ConsoleFrame) (arr : Arrival)
  /-- CLEAR_FAULT (R95). -/
  | clearFault (f : ConsoleFrame) (arr : Arrival)
  /-- SET_HOLD_MODE (R149). -/
  | setHoldMode (f : ConsoleFrame) (arr : Arrival)
  /-- NEXT_STEP (R127). -/
  | nextStep (f : ConsoleFrame) (arr : Arrival)
  /-- NONE (R145). -/
  | noCommand (f : ConsoleFrame) (arr : Arrival)
  /-- ENTRY_WRITER_TAKE (R157). -/
  | entryWriterTake
  /-- STATUS (R162). -/
  | status
  /-- READ (R163): the argument words that arrive after the command word (half, offset, count). -/
  | read (args : List Word)
  /-- READ_WORD (R163): the arbiter grants the stream's next access. -/
  | readWord
  /-- RELEASE (R164): the argument words that arrive after the command word (half). -/
  | release (args : List Word)
  /-- FLUSH (R165): whether the entry writer is writing an entry when the command is complete. -/
  | flush (writing : Bool)
  /-- DEFERRED_FLUSH (R165): the entry that a FLUSH waited for is finished. -/
  | deferredFlush
  /-- UNKNOWN_COMMAND_WORD (R161). -/
  | unknownCommandWord (w : Word)
  /-- COMMAND_TIMEOUT (R161): 2 ms without the next word. -/
  | commandTimeout
  /-- ANSWER_LAST_BYTE_SENT (R161). -/
  | answerLastByteSent
deriving DecidableEq, Repr

end Sys2Proof
end

