-- ==== Sys2Proof/Machine/State.lean ====
section
/-! DEFINITION. The state of the part: every item the spec gives its blocks, as plain data, and the state right after
reset. INVENTORY.md lists the rule that names each item. -/

namespace Sys2Proof.Machine

/-! ### Names -/

/-- Start-up states of the profile loader (R166). -/
inductive Startup where
  | loading | profileFault | ready
deriving DecidableEq, Repr

/-- Hold modes (R143). -/
inductive HoldMode where
  | pass | freeze | restart
deriving DecidableEq, Repr

/-- Capture modes (R154). -/
inductive CaptureMode where
  | off | interval | fraction
deriving DecidableEq, Repr

/-- Channel states (section 5.1). -/
inductive ChannelState where
  | idle | closing | running | held | stopping | opening | ended | faulted
deriving DecidableEq, Repr

/-- Reasons why a run ends (section 5.1). -/
inductive EndReason where
  | none | complete | aborted | excluded | forceStop | fault
deriving DecidableEq, Repr

/-- A stop posted and not yet taken (R77). -/
inductive StopRequest where
  | none
  | secure (reason : EndReason)
  | fast
deriving DecidableEq, Repr

/-- Fault causes (R91). -/
inductive Cause where
  | estop | contactorDropped | converter | overvoltage | undervoltage | overtemp | currentDeviation
  | packVoltage | contactorStuck | contactorNoClose
deriving DecidableEq, Repr

/-- Reasons of a STEP_END entry (R128). -/
inductive StepEndReason where
  | term1 | term2 | term3 | operator | complete | aborted | fault | forceStop | estop | restarted
deriving DecidableEq, Repr

/-- Lock states (section 1.3). -/
inductive LockState where
  | search | acquire | locked
deriving DecidableEq, Repr

/-- Membership states (section 4.1). -/
inductive MemberState where
  | outside | joining | joined | islanded | excluded
deriving DecidableEq, Repr

/-- Results of a console command (section 9.3). -/
inductive Result where
  | accepted | refusedState | refusedProgram | refusedMembership | refusedEstop | refusedTarget
deriving DecidableEq, Repr

/-- Console commands (section 9.3). -/
inductive Command where
  | none | start | abort | forceStop | hold | resume | clearFault | setHoldMode | nextStep
deriving DecidableEq, Repr

/-- Reported channel states of a share frame (section 2.1). -/
inductive Reported where
  | idle | closing | running | held | stopping | opening | ended | faulted | pending
deriving DecidableEq, Repr

/-- Status of a heard-table entry (section 2.3). -/
inductive Presence where
  | absent | carried | present
deriving DecidableEq, Repr

/-- States of a half of the result RAM (R158). -/
inductive HalfState where
  | free | opened | full
deriving DecidableEq, Repr

/-- Causes of an islanding, reasons of an exclusion, and how the pacer flag changed, as STATION entries name them (R71,
R72). -/
inductive StationEvent where
  | cautionOn (sender : Byte)
  | cautionOff (rounds : Nat)
  | memberJoining (left : MemberState)
  | memberJoined (rounds : Nat)
  | islandedOmitted (left : MemberState)
  | islandedLockLost (left : MemberState) (entered : LockState)
  | excludedConflict
  | excludedMismatch (sender : Byte)
  | pacerSelfStart
  | pacerTakeover (missed : Nat)
  | pacerYielded (sender : Byte)
  | pacerClaimFailed (backoff : Nat)
  | pacerCoastLimit
  | pacerExcluded
  | holdOn (console : Byte)
  | holdOff (console : Byte)
deriving DecidableEq, Repr

/-! ### Programs and settings (chapters 7 and 11) -/

/-- Quantities of a termination term (R113). -/
inductive Quantity where
  | voltage | temperature | currentMag | stepTime | stepCharge | stepEnergy | starvedRounds | pulseCount
deriving DecidableEq, Repr

/-- Actions of a termination term (R113). -/
inductive Action where
  | next
  | goto (target : Nat)
  | finish
deriving DecidableEq, Repr

/-- A termination term (R113); `ge` tells the comparison `≥` from `≤`. -/
structure Term where
  quantity : Quantity
  ge : Bool
  threshold : Int
  action : Action
deriving DecidableEq, Repr

/-- The kind of a step with its setpoint fields (section 7.1). -/
inductive StepKind where
  | chargeCC (iSet : Nat)
  | chargeCV (vCv iSet : Nat)
  | dischargeCC (iSet : Nat)
  | dischargeCP (pSet : Nat)
  | rest
  | pulse (amplitude base : Int) (onTime : Nat)
  | loop (target : Nat) (mark : Bool) (count : Nat)
  | finish
deriving DecidableEq, Repr

/-- A step record (section 7.1). -/
structure Step where
  kind : StepKind
  cls : Nat
  capture : CaptureMode
  d : Nat
  terms : List Term
deriving DecidableEq, Repr

/-- One of the eight programs: its validity (R114) and, when valid, its steps. -/
structure Program where
  valid : Bool
  steps : List Step
deriving DecidableEq, Repr

/-- A program slot before the loader has validated it (R114). -/
def Program.absent : Program := ⟨false, []⟩

/-- The settings of one channel in the station block (section 11.3). -/
structure ChannelSettings where
  enable : Bool
  mode : HoldMode
  ramp : Nat
  cvStep : Nat
  tolerance : Nat
  closeLimit : Nat
  openLimit : Nat
deriving DecidableEq, Repr

/-- The limits of one channel in one band (section 5.12). -/
structure Limits where
  chgMax : Nat
  disMax : Nat
  vMax : Nat
  vMin : Nat
  tMax : Int
deriving DecidableEq, Repr

/-- The settings a station takes from its profile (section 11.3). -/
structure Settings where
  station : Nat
  aIsl : Nat
  pFrame : Nat
  channels : Quad ChannelSettings
  pRound : Nat
  q : Nat
  lImp : Nat
  lExp : Nat
  guard : Nat
  floor : Nat
  window : Nat
  t1 : Int
  t2 : Int
  t3 : Int
  hyst : Int
  bands : Quad (Quad Limits)
deriving DecidableEq, Repr

/-- The settings before a profile has been read: nothing reads them before READY. -/
def Settings.blank : Settings where
  station := 0
  aIsl := 0
  pFrame := 0
  channels := Quad.same ⟨false, .pass, 0, 0, 0, 0, 0⟩
  pRound := 0
  q := 0
  lImp := 0
  lExp := 0
  guard := 0
  floor := 0
  window := 0
  t1 := 0
  t2 := 0
  t3 := 0
  hyst := 0
  bands := Quad.same (Quad.same ⟨0, 0, 0, 0, 0⟩)

/-- The profile loader (section 11.1) with what it has decoded from the image. -/
structure Loader where
  startup : Startup
  image : List Byte
  digest : Word
  settings : Settings
  programs : List Program
deriving DecidableEq, Repr

/-! ### Link blocks (chapters 1 to 4) -/

/-- The round timer (section 1.1): the phase in clock ticks; the mark window bookkeeping of R8 (`settled`: the window
around the last predicted round start has had its in-window mark or has passed, or there is none); and whether the
demand latch of this round has been made (R23). -/
structure RoundTimer where
  phase : Nat
  round : Byte
  settled : Bool
  latched : Bool
deriving DecidableEq, Repr

/-- A frame of the station's own on the line, not yet read back (R5, R6). -/
inductive LineFrame where
  | mark (f : MarkFrame) (cut : Bool)
  | share (f : ShareFrame) (cut : Bool)
deriving DecidableEq, Repr

/-- A latched channel block (R23). -/
structure LatchedBlock where
  demand : Int
  cls : Nat
  state : Reported
deriving DecidableEq, Repr

/-- The transceiver: the frame on the line and the latched channel blocks. -/
structure Transceiver where
  line : Option LineFrame
  latched : Quad LatchedBlock
deriving DecidableEq, Repr

/-- The lock unit (section 1.3). -/
structure Lock where
  state : LockState
  listen : Nat
  lockCount : Nat
  missed : Nat
  pacer : Bool
  claimFails : Nat
  backoff : Nat
deriving DecidableEq, Repr

/-- A demand with its class. -/
structure Demand where
  quanta : Int
  cls : Nat
deriving DecidableEq, Repr

/-- A demand of nothing, in class 0. -/
def Demand.zero : Demand := ⟨0, 0⟩

/-- A heard-table entry (section 2.3). -/
structure HeardEntry where
  status : Presence
  carry : Nat
  heard : Bool
  demands : Quad Demand
deriving DecidableEq, Repr

/-- An entry as reset leaves it (R38). -/
def HeardEntry.blank : HeardEntry := ⟨.absent, 0, false, Quad.same Demand.zero⟩

/-- The heard table (section 2.3): entry of station `n` at place `n - 1`; bit `n - 1` of `map` is station `n`. -/
structure HeardTable where
  entries : List HeardEntry
  map : BitVec 48
  tag : Option Byte
  disagreement : Bool
  omission : Bool
deriving DecidableEq, Repr

/-- One entry of the walk snapshot (R32). -/
structure SnapshotEntry where
  station : Nat
  demands : Quad Demand
deriving DecidableEq, Repr

/-- The walk unit (section 3.1). `discardHall` says that the hall result of the walk in progress will be discarded
(R50). -/
structure WalkUnit where
  walking : Bool
  hallInputs : List SnapshotEntry
  localInputs : Quad Demand
  runsHall : Bool
  discardHall : Bool
  pendingHall : Option (Quad Int)
  pendingLocal : Option (Quad Int)
  caution : Bool
  clean : Nat
  cautionRounds : Nat
  grants : Quad Int
deriving DecidableEq, Repr

/-- Membership control (section 4.1). -/
structure Membership where
  state : MemberState
  confirmed : Bool
  joinRounds : Nat
  omissions : Nat
  dwell : Nat
  readbackFails : Nat
deriving DecidableEq, Repr

/-! ### Channels (chapters 5 to 8 and 10) -/

/-- A filtered input (R78): the filtered level and the run count. -/
structure Filter where
  level : Bool
  run : Nat
deriving DecidableEq, Repr

/-- Persistence counts of the timed causes (R92). -/
structure Persistence where
  overV : Nat
  underV : Nat
  overT : Nat
  deviation : Nat
deriving DecidableEq, Repr

/-- The fault record, where it is not empty (R94). -/
structure FaultRecord where
  primary : Cause
  secondary : Option Cause
  tick : BitVec 32
  step : Option Nat
  v : Word
  i : Word
  t : Word
deriving DecidableEq, Repr

/-- A loop stack entry (R114); `remaining` is `none` for ENDLESS. -/
structure LoopEntry where
  loop : Nat
  remaining : Option Nat
deriving DecidableEq, Repr

/-- The step counters (R114). `terms` holds the persistence counts of term positions 1, 2, 3. -/
structure Counters where
  time : Nat
  charge : Nat
  energy : Nat
  starved : Nat
  pulses : Nat
  terms : List Nat
deriving DecidableEq, Repr

/-- The step counters at a step entry (R118). -/
def Counters.zero : Counters := ⟨0, 0, 0, 0, 0, [0, 0, 0]⟩

/-- The step sequencer of one channel (R114); the top of the loop stack is the head of `stack`. -/
structure Sequencer where
  program : Option Nat
  index : Option Nat
  ended : Bool
  stack : List LoopEntry
  counters : Counters
  nextRequest : Bool
  cycles : Nat
deriving DecidableEq, Repr

/-- The live pulse pair (R134). -/
structure LivePair where
  active : Bool
  amplitude : Int
  base : Int
  onTime : Nat
  remaining : Nat
deriving DecidableEq, Repr

/-- The staged pulse pair (R134). -/
structure StagedPair where
  valid : Bool
  amplitude : Int
  base : Int
  onTime : Nat
deriving DecidableEq, Repr

/-- Cleared pairs (R134). -/
def LivePair.clear : LivePair := ⟨false, 0, 0, 0, 0⟩
def StagedPair.clear : StagedPair := ⟨false, 0, 0, 0⟩

/-- A capture pacer (R154). -/
structure Pacer where
  mode : CaptureMode
  d : Nat
  acc : Nat
deriving DecidableEq, Repr

/-- The pacer at reset and at entry to CLOSING (R154). -/
def Pacer.off : Pacer := ⟨.off, 0, 0⟩

/-- The regulator items that shape the setpoint (section 6.1). -/
structure Regulator where
  base : Int
  cv : Nat
  limited : Int
  limitedFlag : Bool
deriving DecidableEq, Repr

/-- One channel: its controller (section 5.1), regulator, sequencer, pulse pairs and capture pacer. `holdMode` is the
console decoder's (R143); `vMeas` is the measured voltage of the most recent control period (R109). -/
structure Channel where
  state : ChannelState
  runRequest : Bool
  runProgram : Nat
  stopRequest : StopRequest
  endReason : EndReason
  drive : Bool
  enabled : Bool
  setpoint : Int
  setpointWord : BitVec 17
  feedback : Filter
  fault : Filter
  closeTimer : Nat
  openTimer : Nat
  lastClose : Nat
  band : Option (Fin 4)
  persistence : Persistence
  record : Option FaultRecord
  chargeIn : Nat
  chargeOut : Nat
  startMode : HoldMode
  startProgram : Nat
  vMeas : Word
  confirmed : Bool
  regulator : Regulator
  sequencer : Sequencer
  live : LivePair
  staged : StagedPair
  pacer : Pacer
  holdMode : HoldMode
deriving DecidableEq, Repr

/-! ### Console, capture, result buffer and port (chapters 9 and 10) -/

/-- The last command record (R143); console number 0 marks the empty record. -/
structure CommandRecord where
  console : BitVec 4
  command : Command
  channel : BitVec 3
  result : Result
deriving DecidableEq, Repr

/-- The console decoder (R143); the hold modes stand in the channels. -/
structure Console where
  hold : Bool
  last : CommandRecord
deriving DecidableEq, Repr

/-- The result entries (section 11.5). -/
inductive Entry where
  | sample (channel : Fin 4) (tick : BitVec 32) (step : Nat) (band : Nat) (v i t : Word)
  | stepEnd (channel : Fin 4) (tick : BitVec 32) (step : Nat) (reason : StepEndReason) (duration charge energy : Nat)
      (starved : Nat) (cycles : Nat)
  | channelStart (channel : Fin 4) (tick : BitVec 32) (program : Nat) (mode : HoldMode) (closeTime : Nat)
  | channelEnd (channel : Fin 4) (tick : BitVec 32) (reason : EndReason) (cycles chargeIn chargeOut : Nat)
  | fault (channel : Fin 4) (tick : BitVec 32) (primary : Cause) (secondary : Option Cause) (step : Option Nat)
      (v i t : Word)
  | gap (tick : BitVec 32) (s0 s1 s2 s3 station : Nat)
  | station (tick : BitVec 32) (event : StationEvent) (round : Byte)
deriving DecidableEq, Repr

/-- An entry queue and its skip count (R156). -/
structure EntryQueue where
  entries : List Entry
  skips : Nat
deriving DecidableEq, Repr

/-- The five queues of the capture unit (section 10.2). -/
structure Capture where
  channels : Quad EntryQueue
  station : EntryQueue
deriving DecidableEq, Repr

/-- One listed word of the result RAM. -/
abbrev RamCell := Nat × Word

/-- The result buffer (section 10.4) with the READY output. -/
structure Buffer where
  ram : List RamCell
  half0 : HalfState
  half1 : HalfState
  writePos : Nat
  lockout : Bool
  ready : Bool
deriving DecidableEq, Repr

/-- A READ answer still streaming: the RAM address of the next word and the words left (R163). -/
structure Stream where
  addr : Nat
  left : Nat
deriving DecidableEq, Repr

/-- The logger port (section 10.5): words of a command not yet complete, whether an answer is being sent, its words so
far, the READ stream, and whether a FLUSH waits for the entry being written. -/
structure Port where
  partialWords : List Word
  answering : Bool
  answer : List Word
  stream : Option Stream
  deferred : Bool
deriving DecidableEq, Repr

/-! ### The state -/

/-- The whole part, with the queue of commands that are waiting and the model's counter of free values. -/
structure State where
  pending : List Instr
  draws : Nat
  loader : Loader
  tick : BitVec 32
  timer : RoundTimer
  link : Transceiver
  lock : Lock
  heard : HeardTable
  walk : WalkUnit
  member : Membership
  channels : Quad Channel
  framePos : Nat
  stopLine : Filter
  console : Console
  capture : Capture
  buffer : Buffer
  port : Port
deriving DecidableEq, Repr

/-- What stops the model. -/
inductive Fault where
  /-- Raised by READ_WORD when its stream points outside the 8192 words of the result RAM, an address the spec says does
  not exist. Safe: no run reaches such a stream (R163 bounds offset and count). -/
  | ramAddress
deriving DecidableEq, Repr

/-- Why a command has no meaning. -/
inductive Refusal where
  /-- Raised by a refused arm of `exec` only: the command of that name is not modelled. Safe. No arm is refused. -/
  | notModelled (mnemonic : String)
deriving DecidableEq, Repr

/-- A channel as reset leaves it (R74, R99, R114, R134, R143, R154). -/
def Channel.reset : Channel where
  state := .idle
  runRequest := false
  runProgram := 0
  stopRequest := .none
  endReason := .none
  drive := false
  enabled := false
  setpoint := 0
  setpointWord := 0
  feedback := ⟨false, 0⟩
  fault := ⟨false, 0⟩
  closeTimer := 0
  openTimer := 0
  lastClose := 0
  band := none
  persistence := ⟨0, 0, 0, 0⟩
  record := none
  chargeIn := 0
  chargeOut := 0
  startMode := .pass
  startProgram := 0
  vMeas := 0
  confirmed := false
  regulator := ⟨0, 0, 0, false⟩
  sequencer := ⟨none, none, false, [], Counters.zero, false, 0⟩
  live := LivePair.clear
  staged := StagedPair.clear
  pacer := Pacer.off
  holdMode := .pass

/-- An empty queue (R156). -/
def EntryQueue.empty : EntryQueue := ⟨[], 0⟩

/-- The state right after reset. That the empty local inputs of the walk unit (R40) are four demands of 0 with class 0 is the
model's choice (log 44), and so are the values that no rule gives (log 8). -/
def State.reset : State where
  pending := []
  draws := 0
  loader := ⟨.loading, [], 0, Settings.blank, List.replicate 8 Program.absent⟩
  tick := 0
  timer := ⟨0, 0, true, false⟩
  link := ⟨none, Quad.same ⟨0, 0, .idle⟩⟩
  lock := ⟨.search, 0, 0, 0, false, 0, 0⟩
  heard := ⟨List.replicate 48 HeardEntry.blank, 0, none, false, false⟩
  walk := ⟨false, [], Quad.same Demand.zero, false, false, none, none, false, 0, 0, Quad.same 0⟩
  member := ⟨.outside, false, 0, 0, 0, 0⟩
  channels := Quad.same Channel.reset
  framePos := 0
  stopLine := ⟨false, 0⟩
  console := ⟨false, ⟨0, .none, 0, .accepted⟩⟩
  capture := ⟨Quad.same EntryQueue.empty, EntryQueue.empty⟩
  buffer := ⟨[], .opened, .free, 0, false, false⟩
  port := ⟨[], false, [], none, false⟩

end Sys2Proof.Machine
end

