-- ==== Sys2Proof/Machine/Ops.lean ====
section
/-! DEFINITION. The named operations over the state's registers, counters, queues and the result RAM. -/

namespace Sys2Proof.Machine

/-! ### One update per block -/

def State.setPending (s : State) (x : List Instr) : State := { s with pending := x }
def State.setDraws (s : State) (x : Nat) : State := { s with draws := x }
def State.setLoader (s : State) (x : Loader) : State := { s with loader := x }
def State.setTick (s : State) (x : BitVec 32) : State := { s with tick := x }
def State.setTimer (s : State) (x : RoundTimer) : State := { s with timer := x }
def State.setLink (s : State) (x : Transceiver) : State := { s with link := x }
def State.setLock (s : State) (x : Lock) : State := { s with lock := x }
def State.setHeard (s : State) (x : HeardTable) : State := { s with heard := x }
def State.setWalk (s : State) (x : WalkUnit) : State := { s with walk := x }
def State.setMember (s : State) (x : Membership) : State := { s with member := x }
def State.setChannels (s : State) (x : Quad Channel) : State := { s with channels := x }
def State.setFramePos (s : State) (x : Nat) : State := { s with framePos := x }
def State.setStopLine (s : State) (x : Filter) : State := { s with stopLine := x }
def State.setConsole (s : State) (x : Console) : State := { s with console := x }
def State.setCapture (s : State) (x : Capture) : State := { s with capture := x }
def State.setBuffer (s : State) (x : Buffer) : State := { s with buffer := x }
def State.setPort (s : State) (x : Port) : State := { s with port := x }

/-! ### Counts and filters -/

/-- A count that rises by one and saturates. -/
def satInc (n top : Nat) : Nat := if n < top then n + 1 else top

/-- A sum that saturates. -/
def satAdd (a b top : Nat) : Nat := min (a + b) top

/-- One raw sample taken by a filter (R78, R79). -/
def filterSample (f : Filter) (sample : Bool) : Filter :=
  if sample = f.level then { f with run := 0 }
  else if Config.filterLimit ≤ f.run + 1 then ⟨sample, 0⟩
  else { f with run := f.run + 1 }

/-! ### The result RAM -/

/-- What a word that is not listed reads as: the FILL word 0000h (log 7). -/
def ramBlank : Word := 0

/-- The word at an address. -/
def ramRead (a : Nat) : List RamCell → Word
  | [] => ramBlank
  | c :: r => if c.1 = a then c.2 else ramRead a r

/-- The RAM after one word is written. -/
def ramPut (a : Nat) (w : Word) : List RamCell → List RamCell
  | [] => if w = ramBlank then [] else [(a, w)]
  | c :: r =>
    if a < c.1 then (if w = ramBlank then c :: r else (a, w) :: c :: r)
    else if a = c.1 then (if w = ramBlank then r else (a, w) :: r)
    else c :: ramPut a w r

/-- The RAM after words are written to the places from `a` on. -/
def ramWrite (a : Nat) : List Word → List RamCell → List RamCell
  | [], ram => ram
  | w :: ws, ram => ramWrite (a + 1) ws (ramPut a w ram)

/-- The RAM after every word of `lo ≤ address < hi` is made a FILL word (R158). -/
def ramFill (lo hi : Nat) (ram : List RamCell) : List RamCell :=
  ram.filter fun c => decide (c.1 < lo) || decide (hi ≤ c.1)

/-- The canonical form of the RAM: addresses inside the 8192 words, strictly rising, and no word listed that an
unlisted address reads as. -/
def Memory.wf : List RamCell → Bool
  | [] => true
  | c :: r =>
    decide (c.1 < Config.ramWords) && decide (c.2 ≠ ramBlank) && r.all (fun d => decide (c.1 < d.1)) && Memory.wf r

/-! ### Entry queues (R156) -/

/-- An entry offered to its queue: it joins the tail, or it is skipped and counted when the queue holds four. -/
def offer (q : EntryQueue) (e : Entry) : EntryQueue :=
  if q.entries.length < Config.queueDepth then { q with entries := q.entries ++ [e] }
  else { q with skips := satInc q.skips Config.max16 }

/-- Entries offered one after another. -/
def offerAll (q : EntryQueue) (es : List Entry) : EntryQueue := es.foldl offer q

/-- STATION entries offered in order to the station queue, each with the tick count and round number of the state. -/
def offerStation (s : State) (events : List StationEvent) : State :=
  s.setCapture { s.capture with
    station := offerAll s.capture.station (events.map fun e => Entry.station s.tick e s.timer.round) }

/-! ### The round timer (section 1.1) -/

/-- A round in clock ticks. -/
def roundTicks (st : Settings) : Nat := st.pRound * Config.ticksPerMs

/-- A slot in clock ticks: one sixty-fourth of a round (R1). -/
def slotTicks (st : Settings) : Nat := roundTicks st / Config.slotsPerRound

/-- The slot position: the number of whole slot lengths contained in the phase (R1). -/
def slotPosition (s : State) : Nat := s.timer.phase / slotTicks s.loader.settings

/-- The timer reads at least `now`: time passes forward and stays below the rollover, which is a command (log 2). -/
def advanceTo (s : State) (now : Nat) : State :=
  s.setTimer { s.timer with phase := min (max s.timer.phase now) (roundTicks s.loader.settings - 1) }

/-- Whether the start of slot `k` still lies ahead in this round. -/
def slotAhead (s : State) (k : Nat) : Bool := decide (s.timer.phase < k * slotTicks s.loader.settings)

/-- The timer at the start of slot `k`. -/
def toSlot (s : State) (k : Nat) : State := s.setTimer { s.timer with phase := k * slotTicks s.loader.settings }

/-- Whether the loader is in READY. -/
def isReady (s : State) : Bool := decide (s.loader.startup = .ready)

/-! ### Lookups -/

/-- The steps of a program; an absent or invalid program has none. -/
def stepsOf (programs : List Program) (p : Nat) : List Step :=
  match programs[p]? with
  | some pr => pr.steps
  | none => []

/-- Whether a program is marked valid (R114). -/
def programValid (programs : List Program) (p : Nat) : Bool :=
  match programs[p]? with
  | some pr => pr.valid
  | none => false

/-- The channel's current step, where one was entered. -/
def currentStep (programs : List Program) (ch : Channel) : Option Step :=
  match ch.sequencer.program, ch.sequencer.index with
  | some p, some i => (stepsOf programs p)[i]?
  | _, _ => none

/-- The band in force; before the first control period after READY the spec gives none (log 9). -/
def bandOf (k : Fin 4) (ch : Channel) : Fin 4 := ch.band.getD (Config.freeBand k)

/-- The limits of channel `k` in a band. -/
def limitsOf (st : Settings) (band k : Fin 4) : Limits := (st.bands.get band).get k

/-- A measured voltage where a rule divides by it: at least 1 (section 1.5). -/
def vCode (v : Word) : Nat := max v.toNat 1

/-- Whether the station may send SHARE frames (R5): LOCKED, and JOINING or JOINED. -/
def sharePermitted (lock : LockState) (m : MemberState) : Bool :=
  decide (lock = .locked) && (decide (m = .joining) || decide (m = .joined))

/-- Whether bit `n - 1` of a heard map is set: station `n` is in it (R171). -/
def inMap (map : BitVec 48) (n : Nat) : Bool := decide (0 < n) && map.getLsbD (n - 1)

/-- The heard-table entry of station `n`. -/
def heardEntry (h : HeardTable) (n : Nat) : HeardEntry := (h.entries[n - 1]?).getD HeardEntry.blank

end Sys2Proof.Machine
end

