-- ==== Sys2Proof/Machine/Frames.lean ====
section
/-! DEFINITION. The CRC-16, the three frame kinds byte by byte, the check of a received frame, the readback of a sent
one, and the setpoint word (R4, R6, R171). -/

namespace Sys2Proof.Machine

/-! ### CRC-16 (section 1.6) -/

/-- One bit of the CRC division by 1021h, most significant bit first (log 1). -/
def crcBit (c : Word) : Word := if c.msb then (c <<< 1) ^^^ 0x1021 else c <<< 1

/-- One byte taken into the CRC register. -/
def crcByte (c : Word) (b : Byte) : Word :=
  crcBit (crcBit (crcBit (crcBit (crcBit (crcBit (crcBit (crcBit (c ^^^ (b.zeroExtend 16 <<< 8)))))))))

/-- The CRC-16 over bytes: generator 1021h, initial value FFFFh. -/
def crc16 (bytes : List Byte) : Word := bytes.foldl crcByte 0xFFFF

/-! ### Bytes of words, more significant byte first (R171) -/

/-- The more significant byte of a word. -/
def hiByte (w : Word) : Byte := w.extractLsb' 8 8
/-- The less significant byte of a word. -/
def loByte (w : Word) : Byte := w.extractLsb' 0 8
/-- The word of two bytes. -/
def word2 (hi lo : Byte) : Word := hi ++ lo

/-- Bytes with their CRC-16 behind them. -/
def withCrc (bytes : List Byte) : List Byte := bytes ++ [hiByte (crc16 bytes), loByte (crc16 bytes)]

/-! ### Frames (R171) -/

def kindMark : Byte := 0x31
def kindShare : Byte := 0x32
def kindConsole : Byte := 0x33

/-- The bytes of a MARK before its check. -/
def markBody (f : MarkFrame) : List Byte := [kindMark, f.station, f.round, hiByte f.digest, loByte f.digest]

/-- The seven bytes of a MARK. -/
def markBytes (f : MarkFrame) : List Byte := withCrc (markBody f)

/-- The three bytes of a channel block. -/
def blockBytes (b : ShareBlock) : List Byte := [hiByte b.demand, loByte b.demand, b.cls ++ b.state]

/-- Byte `j` of the heard map: station `8j + 1` is its bit 0. -/
def mapByte (map : BitVec 48) (j : Nat) : Byte := map.extractLsb' (8 * j) 8

/-- The bytes of a SHARE frame before its check. -/
def shareBody (f : ShareFrame) : List Byte :=
  [kindShare, f.station, f.round, f.member, hiByte f.digest, loByte f.digest,
    mapByte f.map 0, mapByte f.map 1, mapByte f.map 2, mapByte f.map 3, mapByte f.map 4, mapByte f.map 5] ++
  blockBytes f.blocks.c0 ++ blockBytes f.blocks.c1 ++ blockBytes f.blocks.c2 ++ blockBytes f.blocks.c3 ++
  [hiByte f.last, loByte f.last]

/-- The 28 bytes of a SHARE frame. -/
def shareBytes (f : ShareFrame) : List Byte := withCrc (shareBody f)

/-- Command codes (R171). -/
def commandCode : Command → BitVec 4
  | .none => 0
  | .start => 1
  | .abort => 2
  | .forceStop => 3
  | .hold => 4
  | .resume => 5
  | .clearFault => 6
  | .setHoldMode => 7
  | .nextStep => 8

/-- The nine bytes of a CONSOLE frame. -/
def consoleBytes (c : Command) (f : ConsoleFrame) : List Byte :=
  withCrc [kindConsole, f.console, f.station, f.channel, (commandCode c).zeroExtend 8, hiByte f.arg, loByte f.arg]

/-! ### The check of a received frame (R4) -/

/-- The length that belongs to a kind code. -/
def kindLength (k : Byte) : Option Nat :=
  if k = kindMark then some 7 else if k = kindShare then some 28 else if k = kindConsole then some 9 else none

/-- Whether bytes pass the kind, length and CRC checks of R4. -/
def frameChecks (bytes : List Byte) : Bool :=
  match bytes with
  | [] => false
  | k :: _ =>
    match kindLength k with
    | none => false
    | some n =>
      decide (bytes.length = n) &&
      decide (bytes.drop (n - 2) =
        [hiByte (crc16 (bytes.take (n - 2))), loByte (crc16 (bytes.take (n - 2)))])

/-- The block of three bytes. -/
def blockOf (hi lo cs : Byte) : ShareBlock := ⟨word2 hi lo, cs.extractLsb' 4 4, cs.extractLsb' 0 4⟩

/-- The command that a command code names. -/
def commandOf (code : Byte) : Option Command :=
  if code = 0 then some .none
  else if code = 1 then some .start
  else if code = 2 then some .abort
  else if code = 3 then some .forceStop
  else if code = 4 then some .hold
  else if code = 5 then some .resume
  else if code = 6 then some .clearFault
  else if code = 7 then some .setHoldMode
  else if code = 8 then some .nextStep
  else none

/-- The row that a console command is. -/
def consoleRow (c : Command) (f : ConsoleFrame) (arr : Arrival) : Instr :=
  match c with
  | .none => .noCommand f arr
  | .start => .start f arr
  | .abort => .abort f arr
  | .forceStop => .forceStop f arr
  | .hold => .hold f arr
  | .resume => .resume f arr
  | .clearFault => .clearFault f arr
  | .setHoldMode => .setHoldMode f arr
  | .nextStep => .nextStep f arr

/-- The row that a frame on the line raises: its recipient's, or FRAME_CHECK_FAILED (R4). A checked CONSOLE frame whose
command code names no command is taken by nobody (R144); no row stands for it and `none` is answered. -/
def frameRow (bytes : List Byte) (arr : Arrival) : Option Instr :=
  if frameChecks bytes then
    match bytes with
    | [_, st, rd, dh, dl, _, _] => some (.markReceived ⟨st, rd, word2 dh dl⟩ arr)
    | [_, con, st, ch, cmd, ah, al, _, _] =>
      (commandOf cmd).map fun c => consoleRow c ⟨con, st, ch, word2 ah al⟩ arr
    | [_, st, rd, m, dh, dl, m0, m1, m2, m3, m4, m5, a0, a1, a2, b0, b1, b2, c0, c1, c2, d0, d1, d2, lh, ll, _, _] =>
      some (.shareReceived ⟨st, rd, m, word2 dh dl, m5 ++ m4 ++ m3 ++ m2 ++ m1 ++ m0,
        ⟨blockOf a0 a1 a2, blockOf b0 b1 b2, blockOf c0 c1 c2, blockOf d0 d1 d2⟩, word2 lh ll⟩ arr)
    | _ => some (.frameCheckFailed bytes)
  else some (.frameCheckFailed bytes)

/-! ### The readback of a sent frame (R6) -/

/-- Whether a frame that was not cut off reads back: every byte matches and the check passes. -/
def readbackSucceeds (sent readBack : List Byte) (cut : Bool) : Bool :=
  !cut && decide (readBack = sent) && frameChecks readBack

/-! ### The setpoint word (R171) -/

/-- The parity bit that makes the count of ones in the 17 bits even. -/
def parityBit (w : Word) : Bool := (List.range 16).foldl (fun p i => p ^^ w.getLsbD i) false

/-- The word on the setpoint link: the signed code, then the parity bit. -/
def setpointWord (code : Int) : BitVec 17 := BitVec.ofInt 16 code ++ BitVec.ofBool (parityBit (BitVec.ofInt 16 code))

end Sys2Proof.Machine
end

