-- ==== Sys2Proof/Machine/Flags.lean ====
section
/-! DEFINITION. The code tables and packed words: last command record, reported states, result entries, the STATUS
words and the READY output (sections 10.4, 10.5, 11.4, 11.5). -/

namespace Sys2Proof.Machine

/-! ### Codes -/

def holdModeCode : HoldMode → Nat
  | .pass => 0
  | .freeze => 1
  | .restart => 2

def reportedCode : Reported → BitVec 4
  | .idle => 0
  | .closing => 1
  | .running => 2
  | .held => 3
  | .stopping => 4
  | .opening => 5
  | .ended => 6
  | .faulted => 7
  | .pending => 8

def resultCode : Result → BitVec 3
  | .accepted => 0
  | .refusedState => 1
  | .refusedProgram => 2
  | .refusedMembership => 3
  | .refusedEstop => 4
  | .refusedTarget => 5

def stepEndCode : StepEndReason → Nat
  | .term1 => 1
  | .term2 => 2
  | .term3 => 3
  | .operator => 4
  | .complete => 5
  | .aborted => 6
  | .fault => 7
  | .forceStop => 8
  | .estop => 9
  | .restarted => 10

def endCode : EndReason → Nat
  | .none => 0
  | .complete => 1
  | .aborted => 2
  | .excluded => 3
  | .forceStop => 4
  | .fault => 5

def causeCode : Cause → Nat
  | .estop => 1
  | .contactorDropped => 2
  | .converter => 3
  | .overvoltage => 4
  | .undervoltage => 5
  | .overtemp => 6
  | .currentDeviation => 7
  | .packVoltage => 8
  | .contactorStuck => 9
  | .contactorNoClose => 10

/-- JOINING 1 and JOINED 2 as share frames and details carry them; OUTSIDE 0 and ISLANDED 3 as details do. -/
def memberCode : MemberState → Nat
  | .outside => 0
  | .joining => 1
  | .joined => 2
  | .islanded => 3
  | .excluded => 4

/-- The lock state entered, in a MEMBER_ISLANDED detail: none 0, SEARCH 1, ACQUIRE 2. -/
def lockEnteredCode : LockState → Nat
  | .search => 1
  | .acquire => 2
  | .locked => 0

def startupCode : Startup → BitVec 2
  | .loading => 0
  | .ready => 1
  | .profileFault => 2

def halfCode : HalfState → BitVec 2
  | .free => 0
  | .opened => 1
  | .full => 2

/-! ### The last command record in a share frame (R171) -/

/-- Console number in bits 15..12, command in 11..8, channel in 7..5, result in 4..2, bits 1..0 zero. -/
def recordWord (r : CommandRecord) : Word :=
  r.console ++ commandCode r.command ++ r.channel ++ resultCode r.result ++ (0 : BitVec 2)

/-! ### Result entries (section 11.5) -/

/-- A word of an upper and a lower byte. -/
def hiLo (hi lo : Nat) : Word := BitVec.ofNat 16 (hi * 256 + lo)

/-- A two-word value, the more significant word first. -/
def words2 (n : Nat) : List Word := [BitVec.ofNat 16 (n / 65536), BitVec.ofNat 16 n]

/-- The tick count as two words. -/
def tickWords (t : BitVec 32) : List Word := [t.extractLsb' 16 16, t.extractLsb' 0 16]

/-- The header word: kind in bits 15..12, channel in bits 11..8, length in bits 7..0. -/
def headerWord (kind channel length : Nat) : Word := BitVec.ofNat 16 (kind * 4096 + channel * 256 + length)

/-- The event code and detail word of a STATION entry. -/
def stationDetail : StationEvent → Nat × Word
  | .cautionOn n => (1, n.zeroExtend 16)
  | .cautionOff r => (2, BitVec.ofNat 16 r)
  | .memberJoining m => (3, BitVec.ofNat 16 (memberCode m))
  | .memberJoined r => (4, BitVec.ofNat 16 r)
  | .islandedOmitted m => (5, hiLo 1 (memberCode m))
  | .islandedLockLost m l => (5, hiLo 2 (lockEnteredCode l * 16 + memberCode m))
  | .excludedConflict => (6, hiLo 1 0)
  | .excludedMismatch n => (6, hiLo 2 n.toNat)
  | .pacerSelfStart => (7, hiLo 1 0)
  | .pacerTakeover k => (7, hiLo 2 k)
  | .pacerYielded n => (8, hiLo 1 n.toNat)
  | .pacerClaimFailed b => (8, hiLo 2 b)
  | .pacerCoastLimit => (8, hiLo 3 0)
  | .pacerExcluded => (8, hiLo 4 0)
  | .holdOn c => (9, c.zeroExtend 16)
  | .holdOff c => (10, c.zeroExtend 16)

/-- The words of an entry as they are stored. That a GAP entry's header carries channel 7, the station's, is the model's reading
(log 43). -/
def entryWords : Entry → List Word
  | .sample k t s b v i tt => [headerWord 1 k.val 7] ++ tickWords t ++ [hiLo s b, v, i, tt]
  | .stepEnd k t s r du ch en st cy =>
    [headerWord 2 k.val 13] ++ tickWords t ++ [hiLo s (stepEndCode r)] ++ words2 du ++ words2 ch ++ words2 en ++
      [BitVec.ofNat 16 st] ++ words2 cy
  | .channelStart k t p m c =>
    [headerWord 3 k.val 5] ++ tickWords t ++ [hiLo p (holdModeCode m), BitVec.ofNat 16 c]
  | .channelEnd k t r cy ci co =>
    [headerWord 4 k.val 10] ++ tickWords t ++ [BitVec.ofNat 16 (endCode r)] ++ words2 cy ++ words2 ci ++ words2 co
  | .fault k t p s x v i tt =>
    [headerWord 5 k.val 9] ++ tickWords t ++
      [BitVec.ofNat 16 (causeCode p), BitVec.ofNat 16 ((s.map causeCode).getD 0),
        (x.map fun n => BitVec.ofNat 16 n).getD 0xFFFF, v, i, tt]
  | .gap t a b c d e =>
    [headerWord 6 7 8] ++ tickWords t ++
      [BitVec.ofNat 16 a, BitVec.ofNat 16 b, BitVec.ofNat 16 c, BitVec.ofNat 16 d, BitVec.ofNat 16 e]
  | .station t ev r =>
    [headerWord 7 7 5] ++ tickWords t ++ [hiLo (stationDetail ev).1 r.toNat, (stationDetail ev).2]

/-! ### STATUS and READY (R158, R162) -/

/-- The sum of the five skip counts. -/
def skipSum (c : Capture) : Nat :=
  c.channels.c0.skips + c.channels.c1.skips + c.channels.c2.skips + c.channels.c3.skips + c.station.skips

/-- The first data word of the STATUS answer. -/
def statusWord (st : Startup) (b : Buffer) : Word :=
  (0 : BitVec 9) ++ BitVec.ofBool b.lockout ++ halfCode b.half1 ++ halfCode b.half0 ++ startupCode st

/-- The four words of the STATUS answer: OK and three data words. -/
def statusAnswer (st : Startup) (b : Buffer) (c : Capture) : List Word :=
  [0, statusWord st b, BitVec.ofNat 16 (if b.lockout then 0 else b.writePos),
    BitVec.ofNat 16 (min (skipSum c) Config.max16)]

/-- READY is asserted while at least one half is FULL. -/
def readyLevel (b : Buffer) : Bool := decide (b.half0 = .full) || decide (b.half1 = .full)

end Sys2Proof.Machine
end

