-- ==== Sys2Proof/Machine/Grants.lean ====
section
/-! DEFINITION. The grant walk (R42 to R46), demands (R109 to R111), and the taking of results into effect (R48 to R50,
R53). -/

namespace Sys2Proof.Machine

/-! ### Walk items and walk order (R42) -/

/-- A walk item. -/
structure Item where
  cls : Nat
  station : Nat
  channel : Fin 4
  demand : Int
deriving DecidableEq, Repr

/-- The four items of one station. -/
def itemsOf (n : Nat) (d : Quad Demand) : List Item :=
  [⟨d.c0.cls, n, 0, d.c0.quanta⟩, ⟨d.c1.cls, n, 1, d.c1.quanta⟩, ⟨d.c2.cls, n, 2, d.c2.quanta⟩,
    ⟨d.c3.cls, n, 3, d.c3.quanta⟩]

/-- Walk order: by class, then station number, then channel, each ascending. -/
def Item.before (a b : Item) : Bool :=
  decide (a.cls < b.cls) ||
  (decide (a.cls = b.cls) && (decide (a.station < b.station) ||
    (decide (a.station = b.station) && decide (a.channel ≤ b.channel))))

/-- An item put into its place. -/
def insertItem (x : Item) : List Item → List Item
  | [] => [x]
  | y :: r => if Item.before x y then x :: y :: r else y :: insertItem x r

/-- Items in walk order. -/
def walkOrder : List Item → List Item
  | [] => []
  | x :: r => insertItem x (walkOrder r)

/-! ### The two passes (R43, R44) -/

/-- The offer of an item: the magnitude of a supply item's demand, and 0 for any other item. -/
def offerOf (it : Item) : Nat := (-it.demand).toNat

/-- The total offer S of a list. -/
def totalOffer (items : List Item) : Nat := (items.map offerOf).sum

/-- The draw pass over items in walk order from a remaining headroom. -/
def drawPass (room : Nat) : List Item → List (Item × Int)
  | [] => []
  | it :: r =>
    let g := min it.demand.toNat room
    (it, (g : Int)) :: drawPass (room - g) r

/-- The total Dg of the draw grants. -/
def drawTotal (l : List (Item × Int)) : Nat := (l.map fun p => p.2.toNat).sum

/-- The supply pass over granted items in walk order from a remaining headroom; only supply items change. -/
def supplyPass (room : Nat) : List (Item × Int) → List (Item × Int)
  | [] => []
  | p :: r =>
    let g := min (offerOf p.1) room
    (p.1, if p.1.demand < 0 then -(g : Int) else p.2) :: supplyPass (room - g) r

/-- The total Sg of the supply grants. -/
def supplyTotal (l : List (Item × Int)) : Nat := (l.map fun p => (-p.2).toNat).sum

/-- A walk under an import limit, an export limit and a guard: every item, in walk order, with its grant. -/
def walkItems (imp exp grd : Nat) (items : List Item) : List (Item × Int) :=
  let order := walkOrder items
  let drawn := drawPass (imp - grd + totalOffer order) order
  supplyPass (exp - grd + drawTotal drawn) drawn

/-- The grant a walk gave to one channel of a station; 0 where the list holds no such item (R44). -/
def grantOf (n : Nat) (k : Fin 4) (l : List (Item × Int)) : Int :=
  match l.find? fun p => decide (p.1.station = n ∧ p.1.channel = k) with
  | some p => p.2
  | none => 0

/-- The own grants of a station in a completed walk. -/
def ownGrants (n : Nat) (l : List (Item × Int)) : Quad Int := Quad.tab fun k => grantOf n k l

/-- The items of the hall walk (R42). -/
def hallItems (snapshot : List SnapshotEntry) : List Item := snapshot.flatMap fun e => itemsOf e.station e.demands

/-- The own grants of the hall walk. -/
def hallWalk (st : Settings) (snapshot : List SnapshotEntry) : Quad Int :=
  ownGrants st.station (walkItems st.lImp st.lExp st.guard (hallItems snapshot))

/-- The own grants of the local walk: both limits A_isl, guard 0 (R46). -/
def localWalk (st : Settings) (inputs : Quad Demand) : Quad Int :=
  ownGrants st.station (walkItems st.aIsl st.aIsl 0 (itemsOf st.station inputs))

/-! ### Demand (R110, R111) -/

/-- What a channel asks for before it is made quanta: a current in codes, or a power in units of 1/10000 W. -/
inductive Ask where
  | current (i : Int)
  | power (p : Int)
deriving DecidableEq, Repr

/-- A current bounded by the band (R102). -/
def bandLimit (l : Limits) (i : Int) : Int := max (-(l.disMax : Int)) (min i l.chgMax)

/-- What a channel RUNNING in a step asks for (R110). `cv` is the CV target: R107 forms a CHARGE_CV channel's demand from the
present setpoint, R110 and R101 from the CV target, and the model takes the CV target (log 37). The power limit of
DISCHARGE_CP is exact (log 30). -/
def askOfStep (kind : StepKind) (cv : Nat) (l : Limits) (vMeas : Word) : Ask :=
  match kind with
  | .chargeCC i => .current (bandLimit l i)
  | .chargeCV _ _ => .current (bandLimit l cv)
  | .dischargeCC i => .current (bandLimit l (-(i : Int)))
  | .dischargeCP p => .power (-(min (p * 10000) (l.disMax * vMeas.toNat) : Nat))
  | .rest => .current 0
  | .pulse a b _ => .current (bandLimit l (if b.natAbs ≤ a.natAbs then a else b))
  | .loop _ _ _ => .current 0
  | .finish => .current 0

/-- The CV target a step takes at its entry; other kinds keep the one there is (R101). -/
def entryCv (kind : StepKind) (cv : Nat) : Nat :=
  match kind with
  | .chargeCV _ i => i
  | _ => cv

/-- What step 0 of a program asks for, as though the channel were RUNNING in it (R110). -/
def askOfStart (programs : List Program) (p : Nat) (cv : Nat) (l : Limits) (vMeas : Word) : Ask × Nat :=
  match (stepsOf programs p)[0]? with
  | some s => (askOfStep s.kind (entryCv s.kind cv) l vMeas, s.cls)
  | none => (.current 0, 0)

/-- What a channel asks for by its state, with the class of the step it is formed from (R110, R111). -/
def askOf (programs : List Program) (l : Limits) (ch : Channel) : Ask × Nat :=
  match ch.state with
  | .idle => if ch.runRequest then askOfStart programs ch.runProgram ch.regulator.cv l ch.vMeas else (.current 0, 0)
  | .ended => if ch.runRequest then askOfStart programs ch.runProgram ch.regulator.cv l ch.vMeas else (.current 0, 0)
  | .closing =>
    if ch.stopRequest = .none then askOfStart programs ch.startProgram ch.regulator.cv l ch.vMeas else (.current 0, 0)
  | .running =>
    match currentStep programs ch with
    | some s => (askOfStep s.kind ch.regulator.cv l ch.vMeas, s.cls)
    | none => (.current 0, 0)
  | .held => (.current 0, 0)
  | .stopping => (.current ch.setpoint, 0)
  | .opening => (.current 0, 0)
  | .faulted => (.current 0, 0)

/-- The signed power of an ask in units of 1/10000 W (R111). -/
def askPower (vMeas : Word) : Ask → Int
  | .current i => i * vCode vMeas
  | .power p => p

/-- A power made quanta: divided by q, rounded up, reduced to 200, with its sign (R111). -/
def quantaOf (q : Nat) (power : Int) : Int :=
  let m := min ((power.natAbs + (q * 10000 - 1)) / (q * 10000)) Config.maxQuanta
  if power < 0 then -(m : Int) else m

/-- The demand and class of a channel (R109 to R111); a disabled channel gives 0 and class 0, and so does a demand of 0. -/
def demandOf (st : Settings) (programs : List Program) (k : Fin 4) (ch : Channel) : Demand :=
  if (st.channels.get k).enable then
    let a := askOf programs (limitsOf st (bandOf k ch) k) ch
    let d := quantaOf st.q (askPower ch.vMeas a.1)
    if d = 0 then Demand.zero else ⟨d, a.2⟩
  else Demand.zero

/-- The demands of the four channels. -/
def demandsOf (s : State) : Quad Demand :=
  Quad.tab fun k => demandOf s.loader.settings s.loader.programs k (s.channels.get k)

/-- The reported state of a channel (R23). -/
def reportedOf (ch : Channel) : Reported :=
  match ch.state with
  | .idle => if ch.runRequest then .pending else .idle
  | .ended => if ch.runRequest then .pending else .ended
  | .closing => .closing
  | .running => .running
  | .held => .held
  | .stopping => .stopping
  | .opening => .opening
  | .faulted => .faulted

/-- The blocks latched for the share frame (R23). -/
def latchBlocks (s : State) : Quad LatchedBlock :=
  Quad.tab fun k =>
    let d := demandOf s.loader.settings s.loader.programs k (s.channels.get k)
    if (s.loader.settings.channels.get k).enable then ⟨d.quanta, d.cls, reportedOf (s.channels.get k)⟩ else ⟨0, 0, .idle⟩

/-- The state with the blocks latched and the latch of this round marked as made. -/
def latchNow (s : State) : State :=
  (s.setLink { s.link with latched := latchBlocks s }).setTimer { s.timer with latched := true }

/-! ### Caution and the results taken at a round start (R48 to R50, R53) -/

/-- A grant bounded to the floor share in magnitude (R53). -/
def clipGrant (f : Nat) (g : Int) : Int := max (-(f : Int)) (min g f)

/-- The update of caution from the report on the round just ended, and the entry it produces (R53 step 1). -/
def cautionReport (w : WalkUnit) (disagreement : Bool) : WalkUnit × List StationEvent :=
  if w.caution then
    let rounds := satInc w.cautionRounds Config.max16
    if disagreement then ({ w with cautionRounds := rounds, clean := 0 }, [])
    else if Config.cleanLimit ≤ w.clean + 1 then
      ({ w with cautionRounds := rounds, clean := 0, caution := false }, [.cautionOff rounds])
    else ({ w with cautionRounds := rounds, clean := w.clean + 1 }, [])
  else (w, [])

/-- The grants a round start puts into effect, by the membership after it (R48, R49, R53 step 2). `zeros` says that the round
start gives zeros whatever results wait (R50, R56). Zeros without a local result are the model's reading (log 35). -/
def grantsTaken (f : Nat) (w : WalkUnit) (m : MemberState) (zeros : Bool) : Quad Int :=
  if zeros then Quad.same 0
  else
    match w.pendingLocal with
    | none => Quad.same 0
    | some loc =>
      if m = .joined then
        match w.pendingHall with
        | none => Quad.same 0
        | some h => if w.caution then h.map (clipGrant f) else h
      else loc

/-- The walk unit after a round start has taken a result: a walk in progress is abandoned (R49), both pending results are
absent. -/
def takeResult (f : Nat) (w : WalkUnit) (m : MemberState) (zeros : Bool) : WalkUnit :=
  { w with
    grants := grantsTaken f w m zeros, pendingHall := none, pendingLocal := none, walking := false,
    discardHall := false }

/-- Entry to ISLANDED between round starts (R50): zero grants, pending results discarded, a walk in progress runs on. -/
def islandZero (w : WalkUnit) : WalkUnit :=
  { w with grants := Quad.same 0, pendingHall := none, pendingLocal := none, discardHall := w.walking }

/-- The sign of a number: -1, 0 or 1. -/
def signOf (x : Int) : Int := if x < 0 then -1 else if 0 < x then 1 else 0

/-- Whether the round is starved for a RUNNING channel with demand `d` and grant `g` (R112). -/
def starved (d g : Int) : Bool := decide (d ≠ 0) && decide (signOf g ≠ signOf d)

/-- A channel at a round start: a starved RUNNING channel's step counts the round (R112, R120). -/
def starveChannel (d g : Int) (ch : Channel) : Channel :=
  if ch.state = .running ∧ starved d g = true then
    { ch with sequencer := { ch.sequencer with counters := { ch.sequencer.counters with
        starved := satInc ch.sequencer.counters.starved Config.max16 } } }
  else ch

end Sys2Proof.Machine
end

