-- ==== Sys2Proof/Machine/Regulator.lean ====
section
/-! DEFINITION. Stage 4 of a control period: base target, CV target, band and grant limits, cut, ramp and the limited flag
(R99 to R107). -/

namespace Sys2Proof.Machine

/-- What stage 4 reads of a control period. -/
structure RegulateEnv where
  /-- the channel's settings -/
  set : ChannelSettings
  /-- the limits of the band in force -/
  lim : Limits
  /-- the quantum size -/
  q : Nat
  /-- the grant in effect -/
  grant : Int
  /-- the measured pack voltage of the period -/
  v : Word
  /-- the current step -/
  step : Option Step
  /-- whether that step was entered in this period -/
  entered : Bool
  /-- the pulse target of the period -/
  pulse : Int
deriving DecidableEq, Repr

/-- The CV target after this period's update (R101). -/
def cvUpdate (cvStep vCv iSet : Nat) (v : Word) (cv : Nat) : Nat :=
  if vCv < v.toNat then cv - cvStep
  else if v.toNat + 2 < vCv then min (cv + cvStep) iSet
  else cv

/-- The CV target stage 4 works with: updated in RUNNING in a CHARGE_CV step not entered in this period. -/
def cvOf (e : RegulateEnv) (st : ChannelState) (cv : Nat) : Nat :=
  if st = .running ∧ e.entered = false then
    match e.step with
    | some ⟨.chargeCV vCv iSet, _, _, _, _⟩ => cvUpdate e.set.cvStep vCv iSet e.v cv
    | _ => cv
  else cv

/-- The base target of a step in RUNNING (R100). -/
def stepTarget (kind : StepKind) (cv : Nat) (v : Word) (pulse : Int) : Int :=
  match kind with
  | .chargeCC i => i
  | .chargeCV _ _ => cv
  | .dischargeCC i => -(i : Int)
  | .dischargeCP p => -(min Config.maxCurrent (p * 10000 / vCode v) : Nat)
  | .rest => 0
  | .pulse _ _ _ => pulse
  | .loop _ _ _ => 0
  | .finish => 0

/-- The base target (R100); 0 in HELD and STOPPING. -/
def baseTarget (e : RegulateEnv) (st : ChannelState) (cv : Nat) : Int :=
  if st = .running then
    match e.step with
    | some s => stepTarget s.kind cv e.v e.pulse
    | none => 0
  else 0

/-- The current limit I_g of a grant (R103). -/
def grantCurrent (q : Nat) (g : Int) (v : Word) : Nat := g.natAbs * q * 10000 / vCode v

/-- The band-limited target limited by the grant in effect (R103). -/
def grantLimit (q : Nat) (g : Int) (v : Word) (t : Int) : Int :=
  if 0 < t ∧ 0 < g then min t (grantCurrent q g v)
  else if t < 0 ∧ g < 0 then max t (-(grantCurrent q g v : Int))
  else 0

/-- The upper end of the envelope (R105). -/
def envelopeTop (l : Limits) (q : Nat) (g : Int) (v : Word) : Int :=
  if 0 < g then min (l.chgMax : Int) (grantCurrent q g v) else 0

/-- The lower end of the envelope (R105). -/
def envelopeBottom (l : Limits) (q : Nat) (g : Int) (v : Word) : Int :=
  if g < 0 then -(min (l.disMax : Int) (grantCurrent q g v)) else 0

/-- The cut setpoint (R105). -/
def cutSetpoint (top bottom s : Int) : Int :=
  if 0 < s ∧ top < s then top else if s < 0 ∧ s < bottom then bottom else s

/-- A value moved toward a goal by at most `r`. -/
def moveToward (r : Nat) (c goal : Int) : Int := if c < goal then min (c + r) goal else max (c - r) goal

/-- The setpoint after the ramp (R106): `s` is the previous setpoint, `c` the cut setpoint, `t` the limited target. -/
def rampSetpoint (r : Nat) (s c t : Int) : Int :=
  if c = t then t
  else if c = 0 ∧ signOf s * signOf t = -1 then 0
  else if signOf c * signOf t = -1 then moveToward r c 0
  else moveToward r c t

/-- Whether the regulator computes a setpoint in a state (R99). -/
def regulates (st : ChannelState) : Bool :=
  decide (st = .running) || decide (st = .held) || decide (st = .stopping)

/-- Stage 4 of a control period (R99 to R106). -/
def regulate (e : RegulateEnv) (ch : Channel) : Channel :=
  if regulates ch.state then
    let cv := cvOf e ch.state ch.regulator.cv
    let base := baseTarget e ch.state cv
    let limited := grantLimit e.q e.grant e.v (bandLimit e.lim base)
    let cut := cutSetpoint (envelopeTop e.lim e.q e.grant e.v) (envelopeBottom e.lim e.q e.grant e.v) ch.setpoint
    let sp := rampSetpoint e.set.ramp ch.setpoint cut limited
    { ch with
      setpoint := sp
      regulator := ⟨base, cv, limited, decide (limited.natAbs < base.natAbs) || decide (sp ≠ limited)⟩ }
  else
    { ch with setpoint := 0, regulator := { ch.regulator with base := 0, limited := 0, limitedFlag := false } }

/-- Stage 5 of a control period: the outputs by the state reached in stage 3 (R83). -/
def driveOutputs (ch : Channel) : Channel :=
  match ch.state with
  | .idle | .ended | .faulted | .opening =>
    { ch with drive := false, enabled := false, setpointWord := setpointWord 0 }
  | .closing => { ch with drive := true, enabled := false, setpointWord := setpointWord 0 }
  | .running | .held | .stopping =>
    { ch with drive := true, enabled := true, setpointWord := setpointWord ch.setpoint }

end Sys2Proof.Machine
end

