-- ==== Sys2Proof/Machine/Sequencer.lean ====
section
/-! DEFINITION. What stage 3 of a channel's control period is made of: the fault record, the step sequencer, the pulse
frame unit, stops, and the capture pacer (chapters 5, 7, 8, 10). -/

namespace Sys2Proof.Machine

/-- What a channel reads in one control period. -/
structure PeriodEnv where
  st : Settings
  programs : List Program
  k : Fin 4
  tick : BitVec 32
  /-- the frame position of the period -/
  pos : Nat
  /-- the station's hold flag -/
  hold : Bool
  /-- the filtered hall stop level as this channel reads it -/
  stop : Bool
  /-- the grant in effect -/
  grant : Int
  inp : ChannelInput
deriving DecidableEq, Repr

/-- A channel in the middle of its control period, with the entries made so far by kind (R156 gives their order) and
what came about in the period. -/
structure Work where
  ch : Channel
  faults : List Entry
  ends : List Entry
  runs : List Entry
  samples : List Entry
  entered : Bool
  pulse : Int
  closeHit : Bool
  openHit : Bool
deriving DecidableEq, Repr

/-- The work of a period before anything has been done. -/
def Work.of (ch : Channel) : Work := ⟨ch, [], [], [], [], false, 0, false, false⟩

/-- The settings of the period's channel. -/
def PeriodEnv.set (e : PeriodEnv) : ChannelSettings := e.st.channels.get e.k

/-- The limits in force for the channel. -/
def PeriodEnv.limits (e : PeriodEnv) (ch : Channel) : Limits := limitsOf e.st (bandOf e.k ch) e.k

/-! ### The fault record (R94) -/

/-- A fault recorded: primary, secondary, or neither. -/
def recordFault (e : PeriodEnv) (w : Work) (c : Cause) : Work :=
  match w.ch.record with
  | none =>
    let r : FaultRecord := ⟨c, none, e.tick, w.ch.sequencer.index, e.inp.v, e.inp.i, e.inp.t⟩
    { w with
      ch := { w.ch with record := some r }
      faults := w.faults ++ [Entry.fault e.k e.tick c none r.step r.v r.i r.t] }
  | some r =>
    if r.secondary = none ∧ c ≠ r.primary then
      { w with
        ch := { w.ch with record := some { r with secondary := some c } }
        faults := w.faults ++ [Entry.fault e.k e.tick r.primary (some c) r.step r.v r.i r.t] }
    else w

/-! ### Step ends, stops (R85, R87, R128, R131, R142) -/

/-- Step charge in whole mAh, truncated (R120). -/
def chargeMah (units : Nat) : Nat := min (units / Config.unitsPerMah) Config.max32
/-- Step energy in whole Wh, truncated (R120). -/
def energyWh (units : Nat) : Nat := min (units / Config.unitsPerWh) Config.max32

/-- The current step, where one was entered and has not ended, ends with a STEP_END entry (R128). -/
def endStep (e : PeriodEnv) (reason : StepEndReason) (w : Work) : Work :=
  match w.ch.sequencer.index with
  | none => w
  | some i =>
    if w.ch.sequencer.ended then w
    else
      { w with
        ch := { w.ch with sequencer := { w.ch.sequencer with ended := true } }
        ends := w.ends ++ [Entry.stepEnd e.k e.tick i reason w.ch.sequencer.counters.time
          (chargeMah w.ch.sequencer.counters.charge) (energyWh w.ch.sequencer.counters.energy)
          w.ch.sequencer.counters.starved w.ch.sequencer.cycles] }

/-- Both pulse pairs cleared (R134). -/
def clearPairs (ch : Channel) : Channel := { ch with live := LivePair.clear, staged := StagedPair.clear }

/-- A secure stop (R85): the step ends, the channel enters STOPPING, and the step end confirmation is held, because the
capture unit answers at the offer (R156). -/
def secureStop (e : PeriodEnv) (reason : EndReason) (w : Work) : Work :=
  let w := endStep e (if reason = .complete then .complete else .aborted) w
  { w with
    ch := { clearPairs w.ch with
      state := .stopping, endReason := reason, stopRequest := .none, confirmed := true
      sequencer := { w.ch.sequencer with nextRequest := false } } }

/-- Entry to OPENING (R88, R117): the open timer starts, the loop stack empties, requests are discarded. -/
def enterOpening (ch : Channel) : Channel :=
  { ch with
    state := .opening, openTimer := 0, stopRequest := .none
    sequencer := { ch.sequencer with stack := [], nextRequest := false } }

/-- A fast stop (R87). -/
def fastStop (e : PeriodEnv) (reason : EndReason) (stepReason : StepEndReason) (w : Work) : Work :=
  let w := endStep e stepReason w
  { w with ch := { enterOpening (clearPairs w.ch) with setpoint := 0, endReason := reason } }

/-! ### Loops and destinations (R123 to R126) -/

/-- Where a resolved destination leads. -/
inductive Dest where
  | step (i : Nat)
  | finish
deriving DecidableEq, Repr

/-- A LOOP step that the stack's top does not belong to (R124). -/
def loopPush (l target count : Nat) (stack : List LoopEntry) : Nat × List LoopEntry :=
  if count = 0 then (target, ⟨l, none⟩ :: stack)
  else if count = 1 then (l + 1, stack)
  else (target, ⟨l, some (count - 1)⟩ :: stack)

/-- The processing of the LOOP step of index `l` (R124): the index it goes to and the stack after. -/
def loopStep (l target count : Nat) (stack : List LoopEntry) : Nat × List LoopEntry :=
  match stack with
  | [] => loopPush l target count stack
  | top :: rest =>
    if top.loop = l then
      match top.remaining with
      | none => (target, stack)
      | some n => if n - 1 = 0 then (l + 1, rest) else (target, ⟨l, some (n - 1)⟩ :: rest)
    else loopPush l target count stack

/-- What a resolution gives: the destination, the loop stack and the cycle count. -/
structure Resolved where
  dest : Dest
  stack : List LoopEntry
  cycles : Nat
deriving DecidableEq, Repr

/-- The resolution of a destination index (R125). Every chain of LOOP steps ends within the program's length, which the
first argument counts down (log 20). -/
def resolve (steps : List Step) : Nat → Nat → List LoopEntry → Nat → Resolved
  | 0, _, stack, cycles => ⟨.finish, stack, cycles⟩
  | fuel + 1, d, stack, cycles =>
    match steps[d]? with
    | none => ⟨.finish, stack, cycles⟩
    | some s =>
      match s.kind with
      | .finish => ⟨.finish, stack, cycles⟩
      | .loop t m n =>
        resolve steps fuel (loopStep d t n stack).1 (loopStep d t n stack).2
          (if m then satInc cycles Config.max32 else cycles)
      | _ => ⟨.step d, stack, cycles⟩

/-- The number of steps a resolution may take in a program. -/
def resolveFuel (steps : List Step) : Nat := steps.length + 2

/-- Whether the range of a loop stack entry contains step `t` (section 7.1). -/
def entryHolds (steps : List Step) (t : Nat) (x : LoopEntry) : Bool :=
  match steps[x.loop]? with
  | some ⟨.loop target _ _, _, _, _, _⟩ => decide (target ≤ t) && decide (t ≤ x.loop)
  | _ => false

/-- The pops a GOTO makes (R126). -/
def gotoPops (steps : List Step) (t : Nat) (stack : List LoopEntry) : List LoopEntry := stack.filter (entryHolds steps t)

/-! ### Step entry (R118) and pulse staging (R137, R140) -/

/-- The pulse pairs at the entry of a step: a PULSE step is staged and the live pair kept, any other step clears both. -/
def stagePulse (kind : StepKind) (ch : Channel) : Channel :=
  match kind with
  | .pulse a b n => { ch with staged := ⟨true, a, b, n⟩ }
  | _ => clearPairs ch

/-- A working step is entered (R118, R154). -/
def enterStep (i : Nat) (s : Step) (stack : List LoopEntry) (cycles : Nat) (w : Work) : Work :=
  let ch := stagePulse s.kind w.ch
  { w with
    entered := true
    ch := { ch with
      sequencer := { ch.sequencer with
        index := some i, ended := false, counters := Counters.zero, stack := stack, cycles := cycles }
      regulator := { ch.regulator with cv := entryCv s.kind ch.regulator.cv }
      pacer := ⟨s.capture, s.d, Config.captureTop⟩ } }

/-! ### Holds (R84, R132, R141, R152) -/

/-- The pulse pairs at the entry to HELD (R141). R141 says that the on-time remaining is lost; that it reads 0 from then on,
and that the inactive pair keeps its amplitude, base and on-time, is the model's choice (log 41). -/
def holdPairs (kind : StepKind) (mode : HoldMode) (ch : Channel) : Channel :=
  match kind with
  | .pulse a b n =>
    let staged : StagedPair :=
      if mode = .restart then ⟨true, a, b, n⟩
      else if ch.staged.valid then ch.staged
      else ⟨true, ch.live.amplitude, ch.live.base, ch.live.onTime⟩
    { ch with staged := staged, live := { ch.live with active := false, remaining := 0 } }
  | _ => ch

/-- Entry to HELD: the next-step request is cleared without effect (R127). -/
def enterHeld (e : PeriodEnv) (ch : Channel) : Channel :=
  let ch := match currentStep e.programs ch with
    | some s => holdPairs s.kind ch.holdMode ch
    | none => ch
  { ch with state := .held, sequencer := { ch.sequencer with nextRequest := false } }

/-! ### The sequencer's work (R119 to R123, R127, R130) -/

/-- The count stage (R120). -/
def countPeriod (e : PeriodEnv) (c : Counters) : Counters :=
  { c with
    time := satInc c.time Config.max32
    charge := satAdd c.charge e.inp.i.toInt.natAbs Config.max64
    energy := satAdd c.energy (e.inp.i.toInt.natAbs * e.inp.v.toNat) Config.max64 }

/-- Whether the condition of a term holds in the period (R121). -/
def termHolds (e : PeriodEnv) (c : Counters) (t : Term) : Bool :=
  let cmp (x : Int) : Bool := if t.ge then decide (t.threshold ≤ x) else decide (x ≤ t.threshold)
  match t.quantity with
  | .voltage => cmp e.inp.v.toNat
  | .temperature => cmp e.inp.t.toInt
  | .currentMag => cmp e.inp.i.toInt.natAbs
  | .stepTime => cmp c.time
  | .stepCharge => cmp (chargeMah c.charge)
  | .stepEnergy => cmp (energyWh c.energy)
  | .starvedRounds => cmp c.starved
  | .pulseCount => cmp c.pulses

/-- Whether a quantity has persistence 3 (R113). -/
def persistent : Quantity → Bool
  | .voltage => true
  | .temperature => true
  | .currentMag => true
  | .stepTime => false
  | .stepCharge => false
  | .stepEnergy => false
  | .starvedRounds => false
  | .pulseCount => false

/-- The persistence count of a term after the period (R121, R122): `flag` is the limited flag of the previous period. -/
def termCount (e : PeriodEnv) (c : Counters) (flag : Bool) (t : Term) (n : Nat) : Nat :=
  if persistent t.quantity then
    if t.quantity = .currentMag ∧ flag = true then 0
    else if termHolds e c t then min (n + 1) Config.termPersistence else 0
  else n

/-- Whether a term is satisfied in the period, its persistence count being updated already. -/
def termSatisfied (e : PeriodEnv) (c : Counters) (t : Term) (n : Nat) : Bool :=
  if persistent t.quantity then decide (n = Config.termPersistence) else termHolds e c t

/-- The persistence counts after the period, place by place; places without a term keep theirs. -/
def termCounts (e : PeriodEnv) (c : Counters) (flag : Bool) : List Term → List Nat → List Nat
  | t :: ts, n :: ns => termCount e c flag t n :: termCounts e c flag ts ns
  | _, ns => ns

/-- The first satisfied term in list order: its place from 1 and its action. -/
def firstSatisfied (e : PeriodEnv) (c : Counters) (pos : Nat) : List Term → List Nat → Option (Nat × Action)
  | t :: ts, n :: ns => if termSatisfied e c t n then some (pos, t.action) else firstSatisfied e c (pos + 1) ts ns
  | _, _ => none

/-- The STEP_END reason of a term position. -/
def termReason (pos : Nat) : StepEndReason := if pos = 1 then .term1 else if pos = 2 then .term2 else .term3

/-- The steps of the channel's program. -/
def stepsOfChannel (e : PeriodEnv) (ch : Channel) : List Step := stepsOf e.programs (ch.sequencer.program.getD 0)

/-- The destination of a step's end (R123), resolved (R125). -/
def resolveAction (steps : List Step) (i : Nat) (act : Action) (q : Sequencer) : Resolved :=
  match act with
  | .next => resolve steps (resolveFuel steps) (i + 1) q.stack q.cycles
  | .goto t => resolve steps (resolveFuel steps) t (gotoPops steps t q.stack) q.cycles
  | .finish => ⟨.finish, q.stack, q.cycles⟩

/-- The current step ends by a term or the operator: the next working step is entered, or the program finishes (R128,
R130). At a finish the persistence count of the satisfied term keeps its 3 (log 38). -/
def finishStep (e : PeriodEnv) (i : Nat) (reason : StepEndReason) (act : Action) (w : Work) : Work :=
  let steps := stepsOfChannel e w.ch
  let r := resolveAction steps i act w.ch.sequencer
  let w := { w with ch := { w.ch with sequencer := { w.ch.sequencer with cycles := r.cycles } } }
  match r.dest with
  | .finish =>
    let w := secureStop e .complete w
    { w with ch := { w.ch with sequencer := { w.ch.sequencer with stack := [] } } }
  | .step j =>
    match steps[j]? with
    | some s => enterStep j s r.stack r.cycles (endStep e reason w)
    | none => w

/-- The sequencer's work in a counted period of RUNNING (R119). -/
def sequence (e : PeriodEnv) (w : Work) : Work :=
  match w.ch.sequencer.index, currentStep e.programs w.ch with
  | some i, some s =>
    let c := countPeriod e w.ch.sequencer.counters
    if w.ch.sequencer.nextRequest then
      finishStep e i .operator .next
        { w with ch := { w.ch with sequencer := { w.ch.sequencer with counters := c, nextRequest := false } } }
    else
      let ns := termCounts e c w.ch.regulator.limitedFlag s.terms c.terms
      let w := { w with ch := { w.ch with sequencer := { w.ch.sequencer with counters := { c with terms := ns } } } }
      match firstSatisfied e c 1 s.terms ns with
      | some (pos, act) => finishStep e i (termReason pos) act w
      | none => w
  | _, _ => w

/-! ### The pulse frame unit (R135, R136, R138, R139) -/

/-- Part 1: the boundary count of a RUNNING channel. -/
def boundaryCount (e : PeriodEnv) (ch : Channel) : Channel :=
  if e.pos = 0 ∧ ch.live.active = true ∧ ch.staged.valid = false then
    { ch with sequencer := { ch.sequencer with counters := { ch.sequencer.counters with
        pulses := satInc ch.sequencer.counters.pulses Config.max16 } } }
  else ch

/-- The load at a frame boundary (R138). -/
def loadPairs (ch : Channel) : Channel :=
  let ch :=
    if ch.staged.valid then
      { ch with
        live := { ch.live with
          active := true, amplitude := ch.staged.amplitude, base := ch.staged.base, onTime := ch.staged.onTime }
        staged := StagedPair.clear }
    else ch
  if ch.live.active then { ch with live := { ch.live with remaining := ch.live.onTime } } else ch

/-- The pulse target of the period and the live pair after it (R139). -/
def pulseTarget (ch : Channel) : Int × Channel :=
  if ch.live.active then
    if 0 < ch.live.remaining then
      (ch.live.amplitude, { ch with live := { ch.live with remaining := ch.live.remaining - 1 } })
    else (ch.live.base, ch)
  else if ch.staged.valid then (ch.staged.base, ch)
  else (0, ch)

/-- Part 2: load and output, for a channel still RUNNING in a PULSE step. -/
def pulseOutput (e : PeriodEnv) (w : Work) : Work :=
  if w.ch.state = .running then
    match currentStep e.programs w.ch with
    | some ⟨.pulse _ _ _, _, _, _, _⟩ =>
      let p := pulseTarget (if e.pos = 0 then loadPairs w.ch else w.ch)
      { w with ch := p.2, pulse := p.1 }
    | _ => w
  else w

/-! ### The capture pacer (R154, R155) -/

/-- The pacer's work in a period: the pacer after it, and whether it captures. -/
def pacerWork (p : Pacer) : Pacer × Bool :=
  match p.mode with
  | .off => (p, false)
  | .interval => if Config.captureTop < p.acc + 1 then ({ p with acc := p.d }, true) else ({ p with acc := p.acc + 1 }, false)
  | .fraction =>
    if Config.captureTop < p.acc + p.d then ({ p with acc := p.acc + p.d - 1024 }, true)
    else ({ p with acc := p.acc + p.d }, false)

/-- The capture at the end of stage 3: in RUNNING and STOPPING, where no step was entered. -/
def captureStage (e : PeriodEnv) (w : Work) : Work :=
  if (w.ch.state = .running ∨ w.ch.state = .stopping) ∧ w.entered = false then
    let p := pacerWork w.ch.pacer
    { w with
      ch := { w.ch with pacer := p.1 }
      samples :=
        if p.2 then
          [Entry.sample e.k e.tick (w.ch.sequencer.index.getD 255) (bandOf e.k w.ch).val e.inp.v e.inp.i e.inp.t]
        else [] }
  else w

end Sys2Proof.Machine
end

