-- ==== Sys2Proof/Machine/Period.lean ====
section
/-! DEFINITION. One control period of one channel (R75 to R97) and of the station, and the meanings of CONTROL_PERIOD and
of the rows that name what comes about in a control period. -/

namespace Sys2Proof.Machine

/-! ### Stage 1: measure -/

/-- The highest band whose threshold T has reached (R97, rising; first period). -/
def bandFor (st : Settings) (t : Int) : Fin 4 :=
  if st.t3 ≤ t then 3 else if st.t2 ≤ t then 2 else if st.t1 ≤ t then 1 else 0

/-- The highest band below `b` whose threshold less the hysteresis T has reached, else 0 (R97, falling). -/
def bandBelow (st : Settings) (t : Int) (b : Fin 4) : Fin 4 :=
  if 2 < b.val ∧ st.t2 - st.hyst ≤ t then 2 else if 1 < b.val ∧ st.t1 - st.hyst ≤ t then 1 else 0

/-- The threshold of a band; band 0 has none and is not asked. -/
def bandThreshold (st : Settings) (b : Fin 4) : Int :=
  match b with
  | 0 => st.t1
  | 1 => st.t1
  | 2 => st.t2
  | 3 => st.t3

/-- The band after a period (R97). -/
def bandNext (st : Settings) (t : Int) (band : Option (Fin 4)) : Fin 4 :=
  match band with
  | none => bandFor st t
  | some b =>
    if b < bandFor st t then bandFor st t
    else if 0 < b.val ∧ t < bandThreshold st b - st.hyst then bandBelow st t b
    else b

/-- Whether a run is in progress at the start of the period, so that its current counts (R90). -/
def runCounts (s : ChannelState) : Bool :=
  match s with
  | .closing | .running | .held | .stopping | .opening => true
  | .idle | .ended | .faulted => false

/-- Stage 1. -/
def measure (e : PeriodEnv) (ch : Channel) : Channel :=
  { ch with
    feedback := filterSample ch.feedback e.inp.feedback
    fault := filterSample ch.fault e.inp.fault
    band := some (bandNext e.st e.inp.t.toInt ch.band)
    vMeas := e.inp.v
    chargeIn := if runCounts ch.state then ch.chargeIn + e.inp.i.toInt.toNat else ch.chargeIn
    chargeOut := if runCounts ch.state then ch.chargeOut + (-e.inp.i.toInt).toNat else ch.chargeOut }

/-! ### Stage 2: detect (R91, R92) -/

/-- ESTOP is armed in these states. -/
def armedRun (s : ChannelState) : Bool :=
  match s with
  | .closing | .running | .held | .stopping => true
  | .idle | .opening | .ended | .faulted => false

/-- CONTACTOR_DROPPED, CONVERTER and CURRENT_DEVIATION are armed in these states. -/
def armedClosed (s : ChannelState) : Bool :=
  match s with
  | .running | .held | .stopping => true
  | .idle | .closing | .opening | .ended | .faulted => false

/-- OVERVOLTAGE, UNDERVOLTAGE and OVERTEMP are armed in these states. -/
def armedLimits (s : ChannelState) : Bool :=
  match s with
  | .closing | .running | .held | .stopping | .opening | .faulted => true
  | .idle | .ended => false

/-- A persistence count after a period in which its cause is or is not armed, and whether the cause is detected in it: the
count reaches its persistence in this period. -/
def persist (armed cond : Bool) (top n : Nat) : Nat × Bool :=
  if armed && cond then (min (n + 1) top, decide (n + 1 = top)) else (0, false)

/-- The conditions of the timed causes in a period (R91, R92). -/
def overCond (l : Limits) (v : Word) : Bool := decide (l.vMax < v.toNat)
def underCond (l : Limits) (v : Word) (closed : Bool) : Bool := closed && decide (v.toNat < l.vMin)
def tempCond (l : Limits) (t : Word) : Bool := decide (l.tMax < t.toInt)
def deviationCond (tol : Nat) (i : Word) (setpoint : Int) (enabled : Bool) : Bool :=
  enabled && decide (tol < (i.toInt - setpoint).natAbs)

/-- The timed causes of a period: OVERVOLTAGE, UNDERVOLTAGE, OVERTEMP, CURRENT_DEVIATION, each with its count after. -/
def timedCauses (e : PeriodEnv) (ch : Channel) : (Nat × Bool) × (Nat × Bool) × (Nat × Bool) × (Nat × Bool) :=
  let l := e.limits ch
  (persist (armedLimits ch.state) (overCond l e.inp.v) Config.limitPersistence ch.persistence.overV,
    persist (armedLimits ch.state) (underCond l e.inp.v ch.feedback.level) Config.limitPersistence ch.persistence.underV,
    persist (armedLimits ch.state) (tempCond l e.inp.t) Config.limitPersistence ch.persistence.overT,
    persist (armedClosed ch.state) (deviationCond e.set.tolerance e.inp.i ch.setpoint ch.enabled)
      Config.deviationPersistence ch.persistence.deviation)

/-- The causes detected in the period, in the order of the table of R91. -/
def detected (e : PeriodEnv) (ch : Channel) : List Cause :=
  let t := timedCauses e ch
  (if armedRun ch.state && e.stop then [Cause.estop] else []) ++
  (if armedClosed ch.state && !ch.feedback.level then [Cause.contactorDropped] else []) ++
  (if armedClosed ch.state && ch.fault.level && ch.enabled then [Cause.converter] else []) ++
  (if t.1.2 then [Cause.overvoltage] else []) ++
  (if t.2.1.2 then [Cause.undervoltage] else []) ++
  (if t.2.2.1.2 then [Cause.overtemp] else []) ++
  (if t.2.2.2.2 then [Cause.currentDeviation] else [])

/-- The persistence counts after stage 2. -/
def countCauses (e : PeriodEnv) (ch : Channel) : Channel :=
  let t := timedCauses e ch
  { ch with persistence := ⟨t.1.1, t.2.1.1, t.2.2.1.1, t.2.2.2.1⟩ }

/-- A count whose cause is not armed in the state is 0 (R92). -/
def disarm (ch : Channel) : Channel :=
  { ch with persistence :=
      ⟨if armedLimits ch.state then ch.persistence.overV else 0, if armedLimits ch.state then ch.persistence.underV else 0,
        if armedLimits ch.state then ch.persistence.overT else 0,
        if armedClosed ch.state then ch.persistence.deviation else 0⟩ }

/-! ### Stage 3: decide -/

/-- Entry to CLOSING (R76, R117, R154): the run request is taken and the run's items are set. -/
def beginRun (ch : Channel) : Channel :=
  { ch with
    state := .closing, runRequest := false, endReason := .none, chargeIn := 0, chargeOut := 0, confirmed := false
    sequencer := ⟨some ch.runProgram, none, false, [], Counters.zero, false, 0⟩
    pacer := Pacer.off }

/-- A channel that passed the pre-close check (R80): the close timer starts, and what its CHANNEL_START entry will carry is
recorded. -/
def passPreClose (ch : Channel) : Channel :=
  { ch with closeTimer := 0, startMode := ch.holdMode, startProgram := ch.runProgram }

/-- A channel that fails out of CLOSING (R80, R82): it goes to FAULTED and a posted stop is discarded. -/
def failClosing (e : PeriodEnv) (c : Cause) (w : Work) : Work :=
  let w := recordFault e w c
  { w with ch := { w.ch with state := .faulted, endReason := .fault, stopRequest := .none } }

/-- IDLE and ENDED (R76, R80): a set run request is taken, with the pre-close check. -/
def takeRun (e : PeriodEnv) (w : Work) : Work :=
  if w.ch.runRequest then
    if e.stop then { w with ch := { w.ch with runRequest := false } }
    else
      let w := { w with ch := beginRun w.ch }
      if w.ch.feedback.level then failClosing e .contactorStuck w
      else if (e.limits w.ch).vMin ≤ e.inp.v.toNat ∧ e.inp.v.toNat ≤ (e.limits w.ch).vMax then
        { w with ch := passPreClose w.ch }
      else failClosing e .packVoltage w
  else w

/-- Whether a channel with a hold mode answers the hold flag (R81, R84). -/
def holds (e : PeriodEnv) (ch : Channel) : Bool := e.hold && decide (ch.holdMode ≠ .pass)

/-- The end of CLOSING with no stop posted (R81, R117): step 0 is resolved. -/
def startProgram (e : PeriodEnv) (w : Work) : Work :=
  let steps := stepsOfChannel e w.ch
  let r := resolve steps (resolveFuel steps) 0 w.ch.sequencer.stack w.ch.sequencer.cycles
  match r.dest with
  | .finish => secureStop e .complete w
  | .step j =>
    match steps[j]? with
    | some s =>
      let w := enterStep j s r.stack r.cycles w
      if holds e w.ch then { w with ch := enterHeld e w.ch }
      else { w with ch := { w.ch with state := .running } }
    | none => w

/-- The CHANNEL_START entry (R90). -/
def startEntry (e : PeriodEnv) (ch : Channel) : Entry :=
  .channelStart e.k e.tick ch.startProgram ch.startMode ch.lastClose

/-- CLOSING after the period that entered it (R81, R82). -/
def closingWork (e : PeriodEnv) (w : Work) : Work :=
  let w := { w with ch := { w.ch with closeTimer := w.ch.closeTimer + 1 } }
  if w.ch.feedback.level then
    let ch := { w.ch with lastClose := w.ch.closeTimer }
    let w := { w with ch := ch, runs := w.runs ++ [startEntry e ch] }
    match w.ch.stopRequest with
    | .secure r => secureStop e r w
    | _ => startProgram e w
  else if e.set.closeLimit ≤ w.ch.closeTimer then
    { failClosing e .contactorNoClose w with closeHit := true }
  else w

/-- A counted period of RUNNING: the boundary count, then the sequencer (R119, R135). -/
def runWork (e : PeriodEnv) (w : Work) : Work := sequence e { w with ch := boundaryCount e w.ch }

/-- The release of a hold (R84, R132, R152). -/
def releaseHold (e : PeriodEnv) (w : Work) : Work :=
  let w := { w with ch := { w.ch with state := .running } }
  if w.ch.holdMode = .restart then
    match w.ch.sequencer.index, currentStep e.programs w.ch with
    | some i, some s => enterStep i s w.ch.sequencer.stack w.ch.sequencer.cycles (endStep e .restarted w)
    | _, _ => w
  else runWork e w

/-- The CHANNEL_END entry (R90, log 28). -/
def endEntry (e : PeriodEnv) (ch : Channel) : Entry :=
  .channelEnd e.k e.tick ch.endReason ch.sequencer.cycles (chargeMah ch.chargeIn) (chargeMah ch.chargeOut)

/-- The end of OPENING: FAULTED if the record holds a primary cause, else ENDED (R88, R89). -/
def leaveOpening (e : PeriodEnv) (w : Work) : Work :=
  let ch :=
    if w.ch.record.isSome then { w.ch with state := .faulted, endReason := .fault }
    else { w.ch with state := .ended }
  { w with ch := ch, runs := w.runs ++ [endEntry e ch] }

/-- OPENING after the period that entered it (R88, R89). -/
def openingWork (e : PeriodEnv) (w : Work) : Work :=
  let w := { w with ch := { w.ch with openTimer := w.ch.openTimer + 1 } }
  if w.ch.feedback.level then
    if e.set.openLimit ≤ w.ch.openTimer then
      { leaveOpening e (recordFault e w .contactorStuck) with openHit := true }
    else w
  else leaveOpening e w

/-- The step end reason of a fault (R131). -/
def faultStepReason (det : List Cause) : StepEndReason := if det.contains .estop then .estop else .fault

/-- Stage 3 but for the pulse output and the capture: faults first, then posted stops, then the hold flag (R77, R84,
R93). A fault or a FAST stop in CLOSING in the very period in which the feedback first reads closed, or in which the close timer
would reach the close limit, makes the fast stop alone, with no CHANNEL_START entry, no close time and no CONTACTOR_NO_CLOSE:
the model's reading (log 40). -/
def decideStage (e : PeriodEnv) (det : List Cause) (w : Work) : Work :=
  let w := det.foldl (recordFault e) w
  match w.ch.state with
  | .idle => takeRun e w
  | .ended => takeRun e w
  | .closing =>
    if det ≠ [] then fastStop e .fault (faultStepReason det) w
    else if w.ch.stopRequest = .fast then fastStop e .forceStop .forceStop w
    else closingWork e w
  | .running =>
    if det ≠ [] then fastStop e .fault (faultStepReason det) w
    else
      match w.ch.stopRequest with
      | .fast => fastStop e .forceStop .forceStop w
      | .secure r => secureStop e r w
      | .none => if holds e w.ch then { w with ch := enterHeld e w.ch } else runWork e w
  | .held =>
    if det ≠ [] then fastStop e .fault (faultStepReason det) w
    else
      match w.ch.stopRequest with
      | .fast => fastStop e .forceStop .forceStop w
      | .secure r => secureStop e r w
      | .none => if e.hold then w else releaseHold e w
  | .stopping =>
    if det ≠ [] then fastStop e .fault (faultStepReason det) w
    else if w.ch.stopRequest = .fast then fastStop e .forceStop .forceStop w
    else if w.ch.setpoint = 0 ∧ w.ch.confirmed = true then { w with ch := enterOpening w.ch }
    else w
  | .opening => openingWork e w
  | .faulted => w

/-! ### The whole period of a channel (R75) -/

/-- What came about in a control period, for the rows that name it. -/
structure Marks where
  stopChanged : Bool
  filterChanged : Bool
  persisted : Bool
  closeHit : Bool
  openHit : Bool
  captured : Bool
deriving DecidableEq, Repr

/-- A channel after its control period, its entries in the order of R156, and what came about. -/
structure PeriodOut where
  ch : Channel
  entries : List Entry
  marks : Marks
deriving DecidableEq, Repr

/-- What stage 4 reads. -/
def regulateEnv (e : PeriodEnv) (w : Work) : RegulateEnv where
  set := e.set
  lim := e.limits w.ch
  q := e.st.q
  grant := e.grant
  v := e.inp.v
  step := currentStep e.programs w.ch
  entered := w.entered
  pulse := w.pulse

/-- Stages 4 and 5, and the counts of causes that the new state does not arm. -/
def outputStages (e : PeriodEnv) (w : Work) : Channel := disarm (driveOutputs (regulate (regulateEnv e w) w.ch))

/-- One control period of an enabled channel (R75). -/
def channelPeriod (e : PeriodEnv) (ch : Channel) : PeriodOut :=
  let m := measure e ch
  let t := timedCauses e m
  let w := captureStage e (pulseOutput e (decideStage e (detected e m) (Work.of (countCauses e m))))
  { ch := outputStages e w
    entries := w.faults ++ w.ends ++ w.runs ++ w.samples
    marks :=
      { stopChanged := false
        filterChanged := decide (m.feedback.level ≠ ch.feedback.level) || decide (m.fault.level ≠ ch.fault.level)
        persisted := t.1.2 || t.2.1.2 || t.2.2.1.2 || t.2.2.2.2
        closeHit := w.closeHit
        openHit := w.openHit
        captured := !w.samples.isEmpty } }

/-- A channel that does not work in the period: disabled in the profile (R74, R169). -/
def idlePeriod (ch : Channel) : PeriodOut := ⟨ch, [], ⟨false, false, false, false, false, false⟩⟩

/-! ### The control period of the station -/

/-- The environment of channel `k` in a control period that starts in state `s`. -/
def periodEnv (s : State) (inp : PeriodInput) (k : Fin 4) : PeriodEnv where
  st := s.loader.settings
  programs := s.loader.programs
  k := k
  tick := s.tick + 1
  pos := s.framePos
  hold := s.console.hold
  stop := if (inp.channels.get k).afterMonitor then (filterSample s.stopLine inp.stopLine).level else s.stopLine.level
  grant := s.walk.grants.get k
  inp := inp.channels.get k

/-- What channel `k` makes of a control period. -/
def channelOut (s : State) (inp : PeriodInput) (k : Fin 4) : PeriodOut :=
  if (s.loader.settings.channels.get k).enable then channelPeriod (periodEnv s inp k) (s.channels.get k)
  else idlePeriod (s.channels.get k)

/-- The frame position after `pos` (R133). -/
def nextPos (pFrame pos : Nat) : Nat := if pos + 1 < pFrame then pos + 1 else 0

/-- The state after a control period (R75, R79, R133, R166). -/
def periodState (s : State) (inp : PeriodInput) : State :=
  if isReady s then
    { s with
      tick := s.tick + 1
      framePos := nextPos s.loader.settings.pFrame s.framePos
      stopLine := filterSample s.stopLine inp.stopLine
      channels := Quad.tab fun k => (channelOut s inp k).ch
      capture := { s.capture with
        channels := Quad.tab fun k => offerAll (s.capture.channels.get k) (channelOut s inp k).entries } }
  else s.setTick (s.tick + 1)

/-- Whether some channel's marks of a control period satisfy a test. -/
def anyChannel (s : State) (inp : PeriodInput) (test : Marks → Bool) : Bool :=
  isReady s && (test (channelOut s inp 0).marks || test (channelOut s inp 1).marks || test (channelOut s inp 2).marks ||
    test (channelOut s inp 3).marks)

/-- A control period that is taken when `cond` says that the named thing comes about in it; otherwise the event does not
occur and nothing changes (log 4). -/
def periodWhen (cond : Bool) (inp : PeriodInput) (s : State) : State := if cond then periodState s inp else s

/-! ### Meanings -/

/-- CONTROL_PERIOD (R75). -/
def execControlPeriod (inp : PeriodInput) (s : State) : Host.Outcome State Fault Refusal := .next (periodState s inp)

/-- STOP_LEVEL_CHANGE (R79). -/
def execStopLevelChange (inp : PeriodInput) (s : State) : Host.Outcome State Fault Refusal :=
  .next (periodWhen (isReady s && decide ((filterSample s.stopLine inp.stopLine).level ≠ s.stopLine.level)) inp s)

/-- FILTER_LEVEL_CHANGE (R78). -/
def execFilterLevelChange (inp : PeriodInput) (s : State) : Host.Outcome State Fault Refusal :=
  .next (periodWhen (anyChannel s inp Marks.filterChanged) inp s)

/-- PERSISTENCE_DETECT (R92). -/
def execPersistenceDetect (inp : PeriodInput) (s : State) : Host.Outcome State Fault Refusal :=
  .next (periodWhen (anyChannel s inp Marks.persisted) inp s)

/-- CLOSE_LIMIT (R82). -/
def execCloseLimit (inp : PeriodInput) (s : State) : Host.Outcome State Fault Refusal :=
  .next (periodWhen (anyChannel s inp Marks.closeHit) inp s)

/-- OPEN_LIMIT (R89). -/
def execOpenLimit (inp : PeriodInput) (s : State) : Host.Outcome State Fault Refusal :=
  .next (periodWhen (anyChannel s inp Marks.openHit) inp s)

/-- FRAME_BOUNDARY (R133, R136): the control period at frame position 0. -/
def execFrameBoundary (inp : PeriodInput) (s : State) : Host.Outcome State Fault Refusal :=
  .next (periodWhen (isReady s && decide (s.framePos = 0)) inp s)

/-- SAMPLE_CAPTURE (R155). -/
def execSampleCapture (inp : PeriodInput) (s : State) : Host.Outcome State Fault Refusal :=
  .next (periodWhen (anyChannel s inp Marks.captured) inp s)

end Sys2Proof.Machine
end

