-- ==== Sys2Proof/Machine/Operands.lean ====
section
/-! DEFINITION. How the operands of a link event are read: the time of a frame, the slot it occupied, its place in the mark
window (R4, R8, R9, R26, R144). -/

namespace Sys2Proof.Machine

/-- The time of a frame under the present phase: the moment its first byte began, counted from the current round start;
negative where it began before it (R4). The state's timer reads the moment the check completed. -/
def frameTime (s : State) (arr : Arrival) : Int := (s.timer.phase : Int) - arr.elapsed

/-- The slot in which a frame's time lies, under the present phase (R26, R144). -/
def frameSlot (s : State) (arr : Arrival) : Nat :=
  (frameTime s arr % (roundTicks s.loader.settings : Int)).toNat / slotTicks s.loader.settings

/-- Where a mark lies: in-window before or after the timer's own rollover, or out-of-window (R8, R9). -/
inductive MarkPlace where
  | beforeRollover
  | afterRollover
  | outside
deriving DecidableEq, Repr

/-- The half-width of the mark window in clock ticks. -/
def windowTicks (st : Settings) : Nat := st.window * Config.ticksPerUs

/-- The place of a mark. The window around the rollover just made is open until it is settled: by its first in-window mark
or by passing (log 15). -/
def markPlace (s : State) (arr : Arrival) : MarkPlace :=
  let w : Int := windowTicks s.loader.settings
  let t := frameTime s arr
  if (roundTicks s.loader.settings : Int) - w ≤ t then .beforeRollover
  else if s.timer.settled = false ∧ -w ≤ t ∧ t ≤ w then .afterRollover
  else .outside

/-- The station's own number as a byte of a frame. -/
def ownNumber (s : State) : Byte := BitVec.ofNat 8 s.loader.settings.station

/-- The MARK the station sends in the round that has just begun (R5). -/
def ownMark (s : State) : MarkFrame := ⟨ownNumber s, s.timer.round, s.loader.digest⟩

/-- A latched block as it stands in a SHARE frame (R171). -/
def blockField (b : LatchedBlock) : ShareBlock := ⟨BitVec.ofInt 16 b.demand, BitVec.ofNat 4 b.cls, reportedCode b.state⟩

/-- The SHARE frame the station builds at the start of its slot (R24). -/
def ownShare (s : State) : ShareFrame where
  station := ownNumber s
  round := s.timer.round
  member := BitVec.ofNat 8 (memberCode s.member.state)
  digest := s.loader.digest
  map := s.heard.map
  blocks := s.link.latched.map blockField
  last := recordWord s.console.last

/-- The demands and classes a SHARE frame announces. -/
def shareDemands (f : ShareFrame) : Quad Demand := f.blocks.map fun b => ⟨b.demand.toInt, b.cls.toNat⟩

end Sys2Proof.Machine
end

