-- ==== Sys2Proof/Machine/Membership.lean ====
section
/-! DEFINITION. What follows from the lock unit's reports and from a round start: membership (R57 to R68), the effects on
the other blocks, and the STATION entries in their order (R71 to R73). -/

namespace Sys2Proof.Machine

/-- What one event reports to membership control (section 1.3, R64). -/
structure Reports where
  /-- the lock unit entered LOCKED -/
  entered : Bool
  /-- the lock unit left LOCKED -/
  lost : Bool
  /-- a hall mismatch, with the station number of the mark -/
  mismatch : Option Byte
  /-- the third consecutive readback failure of the own share frame -/
  conflict : Bool
  /-- a change of the pacer flag -/
  pacer : Option StationEvent
deriving DecidableEq, Repr

/-- Nothing to report. -/
def Reports.nothing : Reports := ⟨false, false, none, false, none⟩

/-- What membership control makes of an event. -/
structure MemberOut where
  member : Membership
  event : Option StationEvent
  islandedNow : Bool
  excludedNow : Bool
deriving DecidableEq, Repr

/-- Membership left as it is. -/
def MemberOut.keep (m : Membership) : MemberOut := ⟨m, none, false, false⟩

/-- Entry to JOINING (R58, R63). -/
def enterJoining (m : Membership) : MemberOut :=
  ⟨{ m with state := .joining, omissions := 0, confirmed := false, joinRounds := 0 }, some (.memberJoining m.state), false,
    false⟩

/-- Entry to ISLANDED (R62). -/
def enterIslanded (m : Membership) (ev : StationEvent) : MemberOut :=
  ⟨{ m with state := .islanded, omissions := 0, dwell := 0, confirmed := false }, some ev, true, false⟩

/-- Entry to EXCLUDED (R67). -/
def enterExcluded (m : Membership) (ev : StationEvent) : MemberOut :=
  ⟨{ m with state := .excluded, omissions := 0, dwell := 0, confirmed := false }, some ev, false, true⟩

/-- The second consecutive omission round is being reported (R60). -/
def omitsNow (m : Membership) (round : Option Bool) : Bool :=
  decide (round = some true) && decide (Config.omissionLimit ≤ m.omissions + 1)

/-- Membership control in JOINING or JOINED (R59 to R61). `round` is the omission report where a round start falls in the
event; `omittedFirst` is the free value of log 11. -/
def memberInDivision (m : Membership) (lockAfter : LockState) (r : Reports) (round : Option Bool) (omittedFirst : Bool) :
    MemberOut :=
  if r.lost then
    if omitsNow m round && omittedFirst then enterIslanded m (.islandedOmitted m.state)
    else enterIslanded m (.islandedLockLost m.state lockAfter)
  else if omitsNow m round then enterIslanded m (.islandedOmitted m.state)
  else
    match round with
    | none => MemberOut.keep m
    | some om =>
      if m.state = .joining ∧ m.confirmed = true ∧ lockAfter = .locked then
        ⟨{ m with state := .joined, omissions := 0, confirmed := false }, some (.memberJoined m.joinRounds), false, false⟩
      else MemberOut.keep { m with omissions := if om then m.omissions + 1 else 0, confirmed := false }

/-- Membership control in ISLANDED, held from before the event (R63). -/
def memberIslanded (m : Membership) (lockAfter : LockState) (round : Option Bool) : MemberOut :=
  match round with
  | none => MemberOut.keep m
  | some _ =>
    let m := { m with dwell := satInc m.dwell Config.dwellLimit }
    if m.dwell = Config.dwellLimit ∧ lockAfter = .locked then enterJoining m else MemberOut.keep m

/-- What membership control makes of an event (R58 to R68). -/
def memberReact (m : Membership) (lockAfter : LockState) (r : Reports) (round : Option Bool) (omittedFirst : Bool) :
    MemberOut :=
  match m.state with
  | .excluded => MemberOut.keep m
  | .outside =>
    match r.mismatch with
    | some n => enterExcluded m (.excludedMismatch n)
    | none =>
      if r.conflict then enterExcluded m .excludedConflict
      else if r.entered then enterJoining m
      else MemberOut.keep m
  | .islanded =>
    match r.mismatch with
    | some n => enterExcluded m (.excludedMismatch n)
    | none => if r.conflict then enterExcluded m .excludedConflict else memberIslanded m lockAfter round
  | .joining =>
    match r.mismatch with
    | some n => enterExcluded m (.excludedMismatch n)
    | none =>
      if r.conflict then enterExcluded m .excludedConflict else memberInDivision m lockAfter r round omittedFirst
  | .joined =>
    match r.mismatch with
    | some n => enterExcluded m (.excludedMismatch n)
    | none =>
      if r.conflict then enterExcluded m .excludedConflict else memberInDivision m lockAfter r round omittedFirst

/-- The lock unit at entry to EXCLUDED: a LOCKED one leaves LOCKED for ACQUIRE (R66). -/
def lockExcluded (l : Lock) : Lock :=
  if l.state = .locked then
    { l with state := .acquire, lockCount := Config.lockLimit, missed := 0, pacer := false, claimFails := 0 }
  else l

/-- A SECURE stop posted: an earlier request stands (R77). -/
def postSecure (reason : EndReason) (ch : Channel) : Channel :=
  if ch.stopRequest = .none then { ch with stopRequest := .secure reason } else ch

/-- The exclusion notice at a channel (R67). -/
def exclusionNotice (ch : Channel) : Channel :=
  match ch.state with
  | .idle => { ch with runRequest := false }
  | .ended => { ch with runRequest := false }
  | .closing => postSecure .excluded ch
  | .running => postSecure .excluded ch
  | .held => postSecure .excluded ch
  | .stopping => ch
  | .opening => ch
  | .faulted => ch

/-- A frame on the line is cut off when the state that permitted it has gone (R5). -/
def cutLine (lock : Lock) (m : MemberState) : Option LineFrame → Option LineFrame
  | none => none
  | some (.mark f c) => some (.mark f (c || !lock.pacer))
  | some (.share f c) => some (.share f (c || !sharePermitted lock.state m))

/-- Two lists of station events in one order or the other (R73, log 12). -/
def eitherOrder (walkFirst : Bool) (walk member : List StationEvent) : List StationEvent :=
  match walk, member with
  | [], m => m
  | w, [] => w
  | w, m => if walkFirst then w ++ m else m ++ w

/-- The heard table after a round start (R30). -/
def clearRound (h : HeardTable) : HeardTable :=
  { h with entries := h.entries.map fun e => { e with heard := false }, disagreement := false, omission := false }

/-- The channels at a round start: each RUNNING channel is tested against the grants just taken (R112). -/
def starveAll (st : Settings) (programs : List Program) (grants : Quad Int) (chs : Quad Channel) : Quad Channel :=
  Quad.tab fun k => starveChannel (demandOf st programs k (chs.get k)).quanta (grants.get k) (chs.get k)

/-- The pacer entry of an event: the lock unit's own report, or the clearing made by an exclusion (R72, R73). -/
def pacerEvents (r : Reports) (lock : Lock) (excludedNow : Bool) : List StationEvent :=
  match r.pacer with
  | some ev => [ev]
  | none => if excludedNow && lock.pacer then [.pacerExcluded] else []

/-- What follows in every block from the lock unit's reports in an event with no round start. The state holds the lock unit
after its own action. -/
def settleReports (s : State) (r : Reports) : State :=
  let out := memberReact s.member s.lock.state r none false
  let lock := if out.excludedNow then lockExcluded s.lock else s.lock
  offerStation
    { s with
      member := out.member
      lock := lock
      channels := if out.excludedNow then s.channels.map exclusionNotice else s.channels
      walk := if out.islandedNow then islandZero s.walk else s.walk
      link := { s.link with line := cutLine lock out.member.state s.link.line } }
    (pacerEvents r s.lock out.excludedNow ++ out.event.toList)

/-- Whether a round start gives zero grants whatever results wait: the station islands at it (R48, R50), or it is excluded at
it together with a loss of lock (R56). That R56 decides the second case over the table of R48 is the model's reading (log
36). -/
def zeroesGrants (r : Reports) (out : MemberOut) : Bool := out.islandedNow || (out.excludedNow && r.lost)

/-- What follows in every block from the lock unit's reports in an event with a round start (R23, R30, R48 to R53, R56, R59
to R63, R112). The state holds the timer in the new round and the lock unit after its own action. -/
def settleRound (s : State) (r : Reports) : State :=
  let out := memberReact s.member s.lock.state r (some s.heard.omission) (Config.freeIslandOmitted s.draws)
  let lock := if out.excludedNow then lockExcluded s.lock else s.lock
  let caution := cautionReport s.walk s.heard.disagreement
  let walk := takeResult s.loader.settings.floor caution.1 out.member.state (zeroesGrants r out)
  let noticed := if out.excludedNow then s.channels.map exclusionNotice else s.channels
  let s' := offerStation
    { s with
      draws := s.draws + 1
      member := out.member
      lock := lock
      heard := clearRound s.heard
      walk := walk
      channels := starveAll s.loader.settings s.loader.programs walk.grants noticed
      link := { s.link with line := cutLine lock out.member.state s.link.line }
      timer := { s.timer with latched := false } }
    (eitherOrder (Config.freeWalkFirst s.draws) caution.2 (pacerEvents r s.lock out.excludedNow ++ out.event.toList))
  if s.loader.settings.station = 1 then latchNow s' else s'

end Sys2Proof.Machine
end

