-- ==== Sys2Proof/Machine/Rounds.lean ====
section
/-! DEFINITION. The lock unit's actions (R10 to R22), the own rollover and the re-phase (R2, R9), and the meanings of the
rows of the round and of marks. -/

namespace Sys2Proof.Machine

/-! ### The lock unit -/

/-- The lock unit after an action, with what it reports. -/
structure LockOut where
  lock : Lock
  reports : Reports
deriving DecidableEq, Repr

/-- Entry to SEARCH (R10); the pacer flag and the claim-failure count are clear there (R7, R15). -/
def enterSearch (n : Nat) (l : Lock) : Lock :=
  { l with
    state := .search, listen := Config.listenBase + n, lockCount := 0, missed := 0, pacer := false, claimFails := 0 }

/-- Whether the station is the lowest present in its held heard map and present itself (R17 condition 3). -/
def lowestPresent (n : Nat) (map : BitVec 48) : Bool :=
  inMap map n && (List.range n).all fun j => !inMap map j

/-- The claim backoff at a round start (R19). -/
def backoffDown (l : Lock) : Lock := { l with backoff := l.backoff - 1 }

/-- The lock unit at the timer's own rollover: backoff, listen count and self-start, takeover (R10, R11, R17, R19). -/
def lockRollover (n : Nat) (map : BitVec 48) (l0 : Lock) : LockOut :=
  let l := backoffDown l0
  match l.state with
  | .search =>
    if l.listen = 1 then
      ⟨{ l with state := .locked, listen := 0, pacer := true, missed := 0, claimFails := 0 },
        { Reports.nothing with entered := true, pacer := some .pacerSelfStart }⟩
    else ⟨{ l with listen := l.listen - 1 }, Reports.nothing⟩
  | .acquire => ⟨l, Reports.nothing⟩
  | .locked =>
    if l.pacer = false ∧ Config.takeoverMissed ≤ l.missed ∧ l.backoff = 0 ∧ lowestPresent n map = true then
      ⟨{ l with pacer := true, claimFails := 0 }, { Reports.nothing with pacer := some (.pacerTakeover l.missed) }⟩
    else ⟨l, Reports.nothing⟩

/-- What the lock unit makes of a mark: it ignores it, or follows it, with or without a round start (R9). -/
inductive MarkOut where
  | ignored
  | followed (out : LockOut) (roundStart : Bool)
deriving DecidableEq, Repr

/-- A round start is taken at the re-phase unless the own rollover came before the mark's check (R9). -/
def startsRound : MarkPlace → Bool
  | .beforeRollover => true
  | .afterRollover => false
  | .outside => true

/-- The lock unit starts acquisition on a mark: ACQUIRE with lock count 1 (R10, R12, R14, R20, R21). -/
def beginAcquire (l : Lock) : Lock :=
  { l with state := .acquire, lockCount := 1, listen := 0, missed := 0, pacer := false, claimFails := 0 }

/-- A mark in ACQUIRE (R12, R21, R22); `mayLock` is false while membership is EXCLUDED or becomes so with this mark (log
29). -/
def acquireMark (l : Lock) (place : MarkPlace) (mayLock : Bool) (mismatch : Option Byte) : LockOut :=
  match place with
  | .outside => ⟨{ l with lockCount := 1, missed := 0 }, { Reports.nothing with mismatch := mismatch }⟩
  | .beforeRollover | .afterRollover =>
    let c := satInc l.lockCount Config.lockLimit
    if c = Config.lockLimit ∧ mayLock = true then
      ⟨{ l with lockCount := c, missed := 0, state := .locked }, { Reports.nothing with entered := true, mismatch := mismatch }⟩
    else ⟨{ l with lockCount := c, missed := 0 }, { Reports.nothing with mismatch := mismatch }⟩

/-- What the lock unit makes of a checked MARK (R8, R10, R12, R14, R20 to R22). -/
def lockMark (n : Nat) (digest : Word) (excluded : Bool) (l : Lock) (f : MarkFrame) (place : MarkPlace) : MarkOut :=
  let differs : Bool := !excluded && decide (f.digest ≠ digest)
  let mismatch : Option Byte := if differs then some f.station else none
  match l.state with
  | .search => .followed ⟨beginAcquire l, { Reports.nothing with mismatch := mismatch }⟩ true
  | .acquire => .followed (acquireMark l place (!excluded && !differs) mismatch) (startsRound place)
  | .locked =>
    if l.pacer then
      if f.station.toNat < n then
        .followed ⟨beginAcquire l,
          { Reports.nothing with lost := true, mismatch := mismatch, pacer := some (.pacerYielded f.station) }⟩ true
      else .ignored
    else if differs ∨ place = .outside then
      .followed ⟨beginAcquire l, { Reports.nothing with lost := true, mismatch := mismatch }⟩ true
    else .followed ⟨{ l with missed := 0 }, Reports.nothing⟩ (startsRound place)

/-- A passed window (R12 to R15, R22). -/
def lockWindow (n : Nat) (excluded : Bool) (l : Lock) : LockOut :=
  match l.state with
  | .search => ⟨l, Reports.nothing⟩
  | .acquire =>
    let c := satInc l.missed Config.missedLimit
    if c = Config.missedLimit ∧ excluded = false then ⟨enterSearch n l, Reports.nothing⟩
    else ⟨{ l with lockCount := 0, missed := c }, Reports.nothing⟩
  | .locked =>
    let c := satInc l.missed Config.missedLimit
    if c = Config.missedLimit then ⟨enterSearch n l, { Reports.nothing with lost := true }⟩
    else ⟨{ l with missed := c }, Reports.nothing⟩

/-- The readback of the own mark under the pacer flag (R15, R18). `claimDetail` is the free value of log 10. -/
def lockReadback (n : Nat) (claimDetail : Bool) (ok : Bool) (l : Lock) : LockOut :=
  if l.pacer then
    if ok then ⟨{ l with claimFails := 0, missed := 0 }, Reports.nothing⟩
    else
      let claimed : Bool := decide (Config.claimLimit ≤ l.claimFails + 1)
      let coasted : Bool := decide (Config.missedLimit ≤ l.missed + 1)
      let l' : Lock :=
        if claimed then { l with pacer := false, claimFails := 0, backoff := n, missed := l.missed + 1 }
        else { l with claimFails := l.claimFails + 1, missed := l.missed + 1 }
      if coasted then
        ⟨enterSearch n l', { Reports.nothing with
          lost := true
          pacer := some (if claimed && claimDetail then .pacerClaimFailed n else .pacerCoastLimit) }⟩
      else ⟨l', { Reports.nothing with pacer := if claimed then some (.pacerClaimFailed n) else none }⟩
  else ⟨l, Reports.nothing⟩

/-! ### The events -/

/-- Whether a mark window is evaluated: in ACQUIRE and in LOCKED while the pacer flag is clear (R8). -/
def windowEvaluated (l : Lock) : Bool :=
  decide (l.state = .acquire) || (decide (l.state = .locked) && !l.pacer)

/-- The pacer's MARK in slot 0 (R5). -/
def sendMark (s : State) : State :=
  if s.lock.pacer then s.setLink { s.link with line := some (.mark (ownMark s) false) } else s

/-- The timer's own rollover (R1, R2). -/
def rollover (s : State) : State :=
  if isReady s then
    let out := lockRollover s.loader.settings.station s.heard.map s.lock
    let s1 : State := { s with
      lock := out.lock
      timer := { s.timer with phase := 0, round := s.timer.round + 1, settled := !windowEvaluated out.lock } }
    sendMark (settleRound s1 out.reports)
  else s

/-- The timer after a re-phase (R9): the phase is the time since the mark's time, the round number the mark's; no window is
open any more. -/
def rephase (s : State) (f : MarkFrame) (arr : Arrival) : RoundTimer :=
  { s.timer with
    phase := min arr.elapsed (roundTicks s.loader.settings - 1), round := f.round, settled := true }

/-- The lock unit's judgement of a mark in a state whose timer reads the moment the check completed. -/
def judgeMark (s : State) (f : MarkFrame) (arr : Arrival) : MarkOut :=
  lockMark s.loader.settings.station s.loader.digest (decide (s.member.state = .excluded)) s.lock f (markPlace s arr)

/-- A checked MARK (R8 to R22). -/
def receiveMark (f : MarkFrame) (arr : Arrival) (s0 : State) : State :=
  if isReady s0 then
    let s := advanceTo s0 arr.now
    match judgeMark s f arr with
    | .ignored => s
    | .followed out starts =>
      if starts then
        settleRound { s with lock := backoffDown out.lock, timer := rephase s f arr } out.reports
      else settleReports { s with lock := out.lock, timer := rephase s f arr } out.reports
  else s0

/-- Whether a mark window can pass now: it is evaluated and not settled (R8). -/
def windowOpen (s : State) : Bool := isReady s && windowEvaluated s.lock && !s.timer.settled

/-- The mark window passes (R8, R12 to R15): it closes W after the predicted round start. -/
def passWindow (s0 : State) : State :=
  if windowOpen s0 then
    let s := advanceTo s0 (windowTicks s0.loader.settings)
    let out := lockWindow s.loader.settings.station (decide (s.member.state = .excluded)) s.lock
    settleReports { s with lock := out.lock, timer := { s.timer with settled := true } } out.reports
  else s0

/-- The own mark on the line with whether it was cut off. -/
def markOnLine (s : State) : Option (MarkFrame × Bool) :=
  match s.link.line with
  | some (.mark f c) => some (f, c)
  | _ => none

/-- The readback of the own mark (R6, R18); the failed mark takes the place of the window. -/
def readMark (bytes : List Byte) (s : State) : State :=
  match markOnLine s with
  | some (f, c) =>
    let out := lockReadback s.loader.settings.station (Config.freeClaimDetail s.draws)
      (readbackSucceeds (markBytes f) bytes c) s.lock
    settleReports
      { s with draws := s.draws + 1, lock := out.lock, link := { s.link with line := none } } out.reports
  | none => s

/-- A round start by either cause (R2). -/
def roundBy (cause : RoundCause) (s : State) : State :=
  match cause with
  | .rollover => rollover s
  | .mark f arr => receiveMark f arr s

/-- A rise of the missed-mark count by either cause. -/
def missBy (cause : MissCause) (s : State) : State :=
  match cause with
  | .windowPasses => passWindow s
  | .readback bytes => readMark bytes s

/-- An event that is taken when the named thing comes about in it; otherwise it does not occur and nothing changes (log
4). -/
def takenWhen (came : Bool) (after before : State) : State := if came then after else before

/-! ### Meanings: rounds -/

/-- ROUND_START (R1). -/
def execRoundStart (s : State) : Host.Outcome State Fault Refusal := .next (rollover s)

/-- SELF_START (R11): the rollover with which a station in SEARCH enters LOCKED. -/
def execSelfStart (s : State) : Host.Outcome State Fault Refusal :=
  .next (takenWhen (isReady s && decide (s.lock.state = .search) && decide (s.lock.listen = 1)) (rollover s) s)

/-- CAUTION_OFF (R53): the round start with which caution clears. -/
def execCautionOff (cause : RoundCause) (s : State) : Host.Outcome State Fault Refusal :=
  .next (takenWhen (s.walk.caution && !(roundBy cause s).walk.caution) (roundBy cause s) s)

/-- Whether an event islands the station with cause OMITTED (R60): the omission count reaches 2 in it, and where the same
event loses lock, the free value of log 11 says so. -/
def islandsByOmission (cause : RoundCause) (s : State) : Bool :=
  omitsNow s.member (some s.heard.omission) &&
  (decide (s.member.state = .joining) || decide (s.member.state = .joined)) &&
  decide ((roundBy cause s).member.state = .islanded) &&
  (decide ((roundBy cause s).lock.state = .locked) || Config.freeIslandOmitted s.draws)

/-- ISLANDED_OMITTED (R60): the round start with which the omission count reaches 2. -/
def execIslandedOmitted (cause : RoundCause) (s : State) : Host.Outcome State Fault Refusal :=
  .next (takenWhen (islandsByOmission cause s) (roundBy cause s) s)

/-- REJOIN (R63): the round start with which an ISLANDED station becomes JOINING. -/
def execRejoin (cause : RoundCause) (s : State) : Host.Outcome State Fault Refusal :=
  .next (takenWhen (decide (s.member.state = .islanded) && decide ((roundBy cause s).member.state = .joining))
    (roundBy cause s) s)

/-! ### Meanings: marks -/

/-- MARK_RECEIVED (R8). -/
def execMarkReceived (f : MarkFrame) (arr : Arrival) (s : State) : Host.Outcome State Fault Refusal :=
  .next (receiveMark f arr s)

/-- ENTER_LOCKED (R12): the mark with which a station in ACQUIRE enters LOCKED. -/
def execEnterLocked (f : MarkFrame) (arr : Arrival) (s : State) : Host.Outcome State Fault Refusal :=
  .next (takenWhen (decide (s.lock.state = .acquire) && decide ((receiveMark f arr s).lock.state = .locked))
    (receiveMark f arr s) s)

/-- MARK_WINDOW_PASSES (R8). -/
def execMarkWindowPasses (s : State) : Host.Outcome State Fault Refusal := .next (passWindow s)

/-- COAST_LIMIT (R15): the event with which a LOCKED station's missed-mark count reaches 16. -/
def execCoastLimit (cause : MissCause) (s : State) : Host.Outcome State Fault Refusal :=
  .next (takenWhen (decide (s.lock.state = .locked) && decide ((missBy cause s).lock.state = .search)) (missBy cause s) s)

/-- RETURN_TO_SEARCH (R13): the passed window with which an ACQUIRE station's missed-mark count reaches 16. -/
def execReturnToSearch (s : State) : Host.Outcome State Fault Refusal :=
  .next (takenWhen (decide (s.lock.state = .acquire) && decide ((passWindow s).lock.state = .search)) (passWindow s) s)

/-- MARK_READBACK (R18). -/
def execMarkReadback (bytes : List Byte) (s : State) : Host.Outcome State Fault Refusal := .next (readMark bytes s)

/-- Whether a readback brings the claim-failure count to 2 (R18). -/
def claimFailsNow (bytes : List Byte) (s : State) : Bool :=
  match markOnLine s with
  | some (f, c) =>
    !readbackSucceeds (markBytes f) bytes c && s.lock.pacer && decide (Config.claimLimit ≤ s.lock.claimFails + 1)
  | none => false

/-- CLAIM_FAILED (R18): the readback with which the claim-failure count reaches 2. -/
def execClaimFailed (bytes : List Byte) (s : State) : Host.Outcome State Fault Refusal :=
  .next (takenWhen (claimFailsNow bytes s) (readMark bytes s) s)

/-- FRAME_CHECK_FAILED (R4): a frame that fails its check is not received and has no effect on any block. -/
def execFrameCheckFailed (_bytes : List Byte) (s : State) : Host.Outcome State Fault Refusal := .next s

end Sys2Proof.Machine
end

