-- ==== Sys2Proof/Machine/Shares.lean ====
section
/-! DEFINITION. Share frames, the heard table and the walk events (R23 to R37, R41, R47, R59, R64), and the meanings of
their rows. -/

namespace Sys2Proof.Machine

/-! ### Slot events of the station (R1, R23, R24) -/

/-- The start of slot n - 1 (R23). For station 1 that is the round start, which makes the latch itself (log 23). -/
def latchSlot (s : State) : State :=
  if isReady s && slotAhead s (s.loader.settings.station - 1) then
    latchNow (toSlot s (s.loader.settings.station - 1))
  else s

/-- The start of slot n: the frame is built and sent where the state permits it (R5, R24); the blocks are latched now if the
start of slot n - 1 was not passed in this round (R23). -/
def sendShare (s0 : State) : State :=
  if isReady s0 && slotAhead s0 s0.loader.settings.station then
    let s := toSlot s0 s0.loader.settings.station
    if sharePermitted s.lock.state s.member.state then
      let s' := if s.timer.latched then s else latchNow s
      s'.setLink { s'.link with line := some (.share (ownShare s') false) }
    else s
  else s0

/-! ### The heard table (R25 to R36) -/

/-- An entry takes an announcement (R25, R29). -/
def announce (d : Quad Demand) (e : HeardEntry) : HeardEntry := { e with heard := true, demands := d }

/-- The table after the announcement of station `n`. -/
def heardTake (h : HeardTable) (n : Nat) (d : Quad Demand) : HeardTable :=
  { h with entries := h.entries.set (n - 1) (announce d (heardEntry h n)) }

/-- The classification of one entry at walk start (R31). -/
def classify (e : HeardEntry) : HeardEntry :=
  if e.heard then { e with status := .present, carry := 0 }
  else
    match e.status with
    | .present => { e with status := .carried, carry := 1 }
    | .carried =>
      if e.carry = 1 then { e with carry := 2 }
      else { e with status := .absent, carry := 0, demands := Quad.same Demand.zero }
    | .absent => { e with carry := 0, demands := Quad.same Demand.zero }

/-- The stations whose entries are PRESENT, as a map: bit `n - 1` is station `n` (R33). -/
def presentMap (entries : List HeardEntry) : BitVec 48 :=
  BitVec.ofNat 48 (entries.foldr (fun e m => 2 * m + (if e.status = .present then 1 else 0)) 0)

/-- The walk snapshot: every entry that is PRESENT or CARRIED, with its station number counted from `n` (R32). -/
def snapshotFrom (n : Nat) : List HeardEntry → List SnapshotEntry
  | [] => []
  | e :: r => if e.status = .absent then snapshotFrom (n + 1) r else ⟨n, e.demands⟩ :: snapshotFrom (n + 1) r

/-- The table after a walk start: classified, with its heard map tagged with the round (R31, R33). -/
def classifyAll (h : HeardTable) (round : Byte) : HeardTable :=
  { h with
    entries := h.entries.map classify, map := presentMap (h.entries.map classify), tag := some round }

/-- The tests of R26 to R28 on a SHARE frame; the timer reads the moment its check completed. No test reads the lock state: that
a frame which passes them is accepted in SEARCH too is the model's reading (log 42). -/
def shareAccepted (s : State) (f : ShareFrame) (arr : Arrival) : Bool :=
  decide (1 ≤ f.station.toNat ∧ f.station.toNat ≤ 48) &&
  decide (frameSlot s arr = f.station.toNat) &&
  decide (f.station.toNat ≠ s.loader.settings.station) &&
  decide (f.digest = s.loader.digest) &&
  decide (f.round = s.timer.round) &&
  (decide (f.member.toNat = memberCode .joining) || decide (f.member.toNat = memberCode .joined)) &&
  f.blocks.toList.all (fun b =>
    decide (b.demand.toInt.natAbs ≤ Config.maxQuanta) && decide (b.cls.toNat ≤ 2) && decide (b.state.toNat ≤ 8)) &&
  !(heardEntry s.heard f.station.toNat).heard

/-- Whether the agreement and omission checks are made in the current round (R34). -/
def checksMade (s : State) : Bool := decide (s.heard.tag = some (s.timer.round - 1))

/-- Whether a frame's map differs from the held map (R35). -/
def disagrees (s : State) (f : ShareFrame) : Bool := checksMade s && decide (f.map ≠ s.heard.map)

/-- Whether a frame's map omits this station while its own map holds it (R36). -/
def omits (s : State) (f : ShareFrame) : Bool :=
  checksMade s && !inMap f.map s.loader.settings.station && inMap s.heard.map s.loader.settings.station

/-- The walk unit at the notice of a disagreement round (R52). -/
def noticeCaution (w : WalkUnit) : WalkUnit :=
  if w.caution then { w with clean := 0 } else { w with caution := true, clean := 0, cautionRounds := 0 }

/-- The notice with its CAUTION_ON entry (R52, R55). -/
def giveNotice (s : State) (sender : Byte) : State :=
  offerStation (s.setWalk (noticeCaution s.walk)) (if s.walk.caution then [] else [.cautionOn sender])

/-- A SHARE frame that passed the tests: the entry, then the checks on its heard map (R29, R35, R36). -/
def acceptShare (f : ShareFrame) (s : State) : State :=
  let taken := heardTake s.heard f.station.toNat (shareDemands f)
  let s' := s.setHeard { taken with
    disagreement := taken.disagreement || disagrees s f, omission := taken.omission || omits s f }
  if disagrees s f && !s.heard.disagreement then giveNotice s' f.station else s'

/-- A checked SHARE frame (R26 to R29). -/
def receiveShare (f : ShareFrame) (arr : Arrival) (s0 : State) : State :=
  if isReady s0 then
    let s := advanceTo s0 arr.now
    if shareAccepted s f arr then acceptShare f s else s
  else s0

/-! ### The readback of the own share frame (R25, R64) -/

/-- The own share frame on the line with whether it was cut off. -/
def shareOnLine (s : State) : Option (ShareFrame × Bool) :=
  match s.link.line with
  | some (.share f c) => some (f, c)
  | _ => none

/-- The readback of the own share frame: a success writes the own entry and clears the count, a failure of a frame that ran to
its end counts, a cut frame changes nothing (R64). -/
def readShare (bytes : List Byte) (s0 : State) : State :=
  match shareOnLine s0 with
  | some (f, c) =>
    let s := s0.setLink { s0.link with line := none }
    if c then s
    else if readbackSucceeds (shareBytes f) bytes c then
      { s with
        heard := heardTake s.heard s.loader.settings.station (shareDemands f)
        member := { s.member with readbackFails := 0 } }
    else
      let fails := satInc s.member.readbackFails Config.conflictLimit
      settleReports (s.setMember { s.member with readbackFails := fails })
        { Reports.nothing with conflict := decide (fails = Config.conflictLimit) }
  | none => s0

/-! ### The walk (R41, R47, R59) -/

/-- Membership control at a walk start in JOINING (R59). -/
def walkStartMember (m : Membership) (own : HeardEntry) : Membership :=
  if m.state = .joining then
    { m with
      joinRounds := satInc m.joinRounds Config.max16
      confirmed := m.confirmed || decide (own.status = .present) }
  else m

/-- The walk unit at a walk start (R41). -/
def walkStartUnit (w : WalkUnit) (h : HeardTable) (m : MemberState) (own : Quad Demand) : WalkUnit :=
  { w with
    walking := true
    hallInputs := snapshotFrom 1 h.entries
    localInputs := own
    runsHall := decide (m = .joining) || decide (m = .joined)
    discardHall := false
    pendingHall := none
    pendingLocal := none }

/-- The end of slot 56 (R31 to R33, R41, R59). -/
def startWalk (s0 : State) : State :=
  if isReady s0 && slotAhead s0 Config.walkStartSlot then
    let s := toSlot s0 Config.walkStartSlot
    let h := classifyAll s.heard s.timer.round
    { s with
      heard := h
      member := walkStartMember s.member (heardEntry h s.loader.settings.station)
      walk := walkStartUnit s.walk h s.member.state (demandsOf s) }
  else s0

/-- Walk completion (R47, R50). -/
def completeWalk (s : State) : State :=
  if s.walk.walking then
    s.setWalk { s.walk with
      walking := false
      discardHall := false
      pendingHall :=
        if s.walk.runsHall && !s.walk.discardHall then some (hallWalk s.loader.settings s.walk.hallInputs) else none
      pendingLocal := some (localWalk s.loader.settings s.walk.localInputs) }
  else s

/-! ### Meanings -/

/-- DEMAND_LATCH (R23). -/
def execDemandLatch (s : State) : Host.Outcome State Fault Refusal := .next (latchSlot s)

/-- SHARE_FRAME_SEND (R24). -/
def execShareFrameSend (s : State) : Host.Outcome State Fault Refusal := .next (sendShare s)

/-- WALK_START (R41). -/
def execWalkStart (s : State) : Host.Outcome State Fault Refusal := .next (startWalk s)

/-- WALK_COMPLETION (R47). -/
def execWalkCompletion (s : State) : Host.Outcome State Fault Refusal := .next (completeWalk s)

/-- SHARE_RECEIVED (R29). -/
def execShareReceived (f : ShareFrame) (arr : Arrival) (s : State) : Host.Outcome State Fault Refusal :=
  .next (receiveShare f arr s)

/-- SHARE_READBACK (R25). -/
def execShareReadback (bytes : List Byte) (s : State) : Host.Outcome State Fault Refusal := .next (readShare bytes s)

/-- NUMBER_CONFLICT (R64): the readback with which the station becomes EXCLUDED. -/
def execNumberConflict (bytes : List Byte) (s : State) : Host.Outcome State Fault Refusal :=
  .next (takenWhen (decide (s.member.state ≠ .excluded) && decide ((readShare bytes s).member.state = .excluded))
    (readShare bytes s) s)

end Sys2Proof.Machine
end

