-- ==== Sys2Proof/Machine/Consoles.lean ====
section
/-! DEFINITION. The console decoder (R143 to R150) and the meanings of the nine console commands. -/

namespace Sys2Proof.Machine

/-- The hold mode that a SET_HOLD_MODE argument names (R171). -/
def modeOfArg (arg : Word) : Option HoldMode :=
  if arg = 0 then some .pass else if arg = 1 then some .freeze else if arg = 2 then some .restart else none

/-- Whether a checked CONSOLE frame of a command is taken (R144); the timer reads the moment its check completed. -/
def consoleTaken (c : Command) (s : State) (f : ConsoleFrame) (arr : Arrival) : Bool :=
  decide (1 ≤ f.console.toNat ∧ f.console.toNat ≤ 8) &&
  decide (frameSlot s arr = 48 + f.console.toNat) &&
  (decide (f.station = 0) || decide (f.station.toNat = s.loader.settings.station)) &&
  (decide (c ≠ .setHoldMode) || (modeOfArg f.arg).isSome)

/-- The last command record after a taken command (R146): a target channel above 4 is recorded as 7. -/
def record (c : Command) (f : ConsoleFrame) (r : Result) (s : State) : State :=
  s.setConsole { s.console with
    last := ⟨f.console.truncate 4, c, if f.channel.toNat ≤ 4 then f.channel.truncate 3 else 7, r⟩ }

/-- What a command makes of one channel. -/
structure Judged where
  ch : Channel
  result : Result
deriving DecidableEq, Repr

/-- The channels a target reaches (R145): none for a disabled or unknown one, every enabled one for channel 4. -/
def reached (st : Settings) (target : Nat) : List (Fin 4) :=
  ([0, 1, 2, 3] : List (Fin 4)).filter fun k => (st.channels.get k).enable && (decide (target = 4) || decide (target = k.val))

/-- A command applied to channels one after another; the result is the refusal of the first that refused it (R145). -/
def applyTo (judge : Channel → Judged) : List (Fin 4) → Quad Channel → Quad Channel × Result
  | [], chs => (chs, .accepted)
  | k :: ks, chs =>
    let j := judge (chs.get k)
    let rest := applyTo judge ks (chs.set k j.ch)
    (rest.1, if j.result = .accepted then rest.2 else j.result)

/-- A command that acts on channels (R145): with no channel reached it is refused with REFUSED_TARGET. -/
def onChannels (judge : Channel → Judged) (target : Nat) (s : State) : State × Result :=
  match reached s.loader.settings target with
  | [] => (s, .refusedTarget)
  | ks =>
    let r := applyTo judge ks s.channels
    (s.setChannels r.1, r.2)

/-- A checked CONSOLE frame of command `c` (R144, R146): where it is taken it acts by `act` and replaces the record. A frame
begun late in slot 56 whose check completes after walk start is taken (log 39). -/
def takeConsole (c : Command) (f : ConsoleFrame) (arr : Arrival) (act : State → State × Result) (s0 : State) : State :=
  if isReady s0 then
    let s := advanceTo s0 arr.now
    if consoleTaken c s f arr then record c f (act s).2 (act s).1 else s
  else s0

/-! ### The judgement of each command at one channel -/

/-- Whether a channel is IDLE or ENDED. -/
def restsOpen (ch : Channel) : Bool := decide (ch.state = .idle) || decide (ch.state = .ended)

/-- START (R147): the four tests in order. -/
def judgeStart (s : State) (arg : Word) (ch : Channel) : Judged :=
  if s.member.state ≠ .joined then ⟨ch, .refusedMembership⟩
  else if s.stopLine.level then ⟨ch, .refusedEstop⟩
  else if !restsOpen ch || ch.runRequest then ⟨ch, .refusedState⟩
  else if arg.toNat ≤ 7 ∧ programValid s.loader.programs arg.toNat = true then
    ⟨{ ch with runRequest := true, runProgram := arg.toNat }, .accepted⟩
  else ⟨ch, .refusedProgram⟩

/-- ABORT (R148). -/
def judgeAbort (ch : Channel) : Judged :=
  match ch.state with
  | .idle | .ended => if ch.runRequest then ⟨{ ch with runRequest := false }, .accepted⟩ else ⟨ch, .refusedState⟩
  | .closing | .running | .held => ⟨postSecure .aborted ch, .accepted⟩
  | .stopping | .opening | .faulted => ⟨ch, .refusedState⟩

/-- FORCE_STOP (R148); a FAST post replaces NONE or SECURE (R77). -/
def judgeForceStop (ch : Channel) : Judged :=
  match ch.state with
  | .idle | .ended => if ch.runRequest then ⟨{ ch with runRequest := false }, .accepted⟩ else ⟨ch, .refusedState⟩
  | .closing | .running | .held | .stopping => ⟨{ ch with stopRequest := .fast }, .accepted⟩
  | .opening | .faulted => ⟨ch, .refusedState⟩

/-- CLEAR_FAULT (R95, R149). -/
def judgeClearFault (ch : Channel) : Judged :=
  if ch.state = .faulted ∧ ch.feedback.level = false then
    ⟨{ ch with state := .idle, record := none, endReason := .none, persistence := ⟨0, 0, 0, 0⟩ }, .accepted⟩
  else ⟨ch, .refusedState⟩

/-- SET_HOLD_MODE (R149). -/
def judgeSetHoldMode (arg : Word) (ch : Channel) : Judged :=
  if ch.state = .held then ⟨ch, .refusedState⟩
  else
    match modeOfArg arg with
    | some m => ⟨{ ch with holdMode := m }, .accepted⟩
    | none => ⟨ch, .refusedState⟩

/-- NEXT_STEP (R127, R149). -/
def judgeNextStep (ch : Channel) : Judged :=
  if ch.state = .running then ⟨{ ch with sequencer := { ch.sequencer with nextRequest := true } }, .accepted⟩
  else ⟨ch, .refusedState⟩

/-- HOLD and RESUME (R145, R150): the flag is set or cleared once for any target channel from 0 to 4, and a change of it
produces a STATION entry. -/
def actHold (flag : Bool) (f : ConsoleFrame) (s : State) : State × Result :=
  if 4 < f.channel.toNat then (s, .refusedTarget)
  else if s.console.hold = flag then (s, .accepted)
  else
    (offerStation (s.setConsole { s.console with hold := flag }) [if flag then .holdOn f.console else .holdOff f.console],
      .accepted)

/-- NONE (R145): it acts on no channel and on no flag. -/
def actNone (f : ConsoleFrame) (s : State) : State × Result :=
  (s, if 4 < f.channel.toNat then .refusedTarget else .accepted)

/-! ### Meanings -/

/-- START (R147). -/
def execStart (f : ConsoleFrame) (arr : Arrival) (s : State) : Host.Outcome State Fault Refusal :=
  .next (takeConsole .start f arr (fun t => onChannels (judgeStart t f.arg) f.channel.toNat t) s)

/-- ABORT (R148). -/
def execAbort (f : ConsoleFrame) (arr : Arrival) (s : State) : Host.Outcome State Fault Refusal :=
  .next (takeConsole .abort f arr (onChannels judgeAbort f.channel.toNat) s)

/-- FORCE_STOP (R148). -/
def execForceStop (f : ConsoleFrame) (arr : Arrival) (s : State) : Host.Outcome State Fault Refusal :=
  .next (takeConsole .forceStop f arr (onChannels judgeForceStop f.channel.toNat) s)

/-- HOLD (R150). -/
def execHold (f : ConsoleFrame) (arr : Arrival) (s : State) : Host.Outcome State Fault Refusal :=
  .next (takeConsole .hold f arr (actHold true f) s)

/-- RESUME (R150). -/
def execResume (f : ConsoleFrame) (arr : Arrival) (s : State) : Host.Outcome State Fault Refusal :=
  .next (takeConsole .resume f arr (actHold false f) s)

/-- CLEAR_FAULT (R95). -/
def execClearFault (f : ConsoleFrame) (arr : Arrival) (s : State) : Host.Outcome State Fault Refusal :=
  .next (takeConsole .clearFault f arr (onChannels judgeClearFault f.channel.toNat) s)

/-- SET_HOLD_MODE (R149). -/
def execSetHoldMode (f : ConsoleFrame) (arr : Arrival) (s : State) : Host.Outcome State Fault Refusal :=
  .next (takeConsole .setHoldMode f arr (onChannels (judgeSetHoldMode f.arg) f.channel.toNat) s)

/-- NEXT_STEP (R127). -/
def execNextStep (f : ConsoleFrame) (arr : Arrival) (s : State) : Host.Outcome State Fault Refusal :=
  .next (takeConsole .nextStep f arr (onChannels judgeNextStep f.channel.toNat) s)

/-- NONE (R145, R146). -/
def execNoCommand (f : ConsoleFrame) (arr : Arrival) (s : State) : Host.Outcome State Fault Refusal :=
  .next (takeConsole .none f arr (actNone f) s)

end Sys2Proof.Machine
end

