-- ==== Sys2Proof/Machine/Results.lean ====
section
/-! DEFINITION. The entry writer, the two halves of the result RAM, the logger port (R157 to R165), and the meanings of
their rows. -/

namespace Sys2Proof.Machine

/-! ### Halves (R158, R159) -/

/-- The number of the OPEN half, where there is one. -/
def openHalf (b : Buffer) : Option Nat :=
  if b.half0 = .opened then some 0 else if b.half1 = .opened then some 1 else none

/-- The first RAM word of a half. -/
def halfBase (h : Nat) : Nat := h * Config.halfWords

/-- The state of a half. -/
def halfState (b : Buffer) (h : Nat) : HalfState := if h = 0 then b.half0 else b.half1

/-- The buffer with the state of a half changed. -/
def setHalf (b : Buffer) (h : Nat) (x : HalfState) : Buffer := if h = 0 then { b with half0 := x } else { b with half1 := x }

/-- The closing of the OPEN half `h` (R158): FILL words to its end, FULL, READY rises; the other half becomes OPEN if it is
FREE, else lockout begins (R159). -/
def closeHalf (h : Nat) (b : Buffer) : Buffer :=
  let filled : Buffer := { b with
    ram := ramFill (halfBase h + b.writePos) (halfBase h + Config.halfWords) b.ram, writePos := 0, ready := true }
  let closed := setHalf filled h .full
  if halfState closed (1 - h) = .free then setHalf closed (1 - h) .opened else { closed with lockout := true }

/-- Words written behind the write position of half `h`. -/
def putWords (h : Nat) (ws : List Word) (b : Buffer) : Buffer :=
  { b with ram := ramWrite (halfBase h + b.writePos) ws b.ram, writePos := b.writePos + ws.length }

/-- Whether words fit into what is left of the OPEN half (R158). -/
def fits (b : Buffer) (ws : List Word) : Bool := decide (ws.length ≤ Config.halfWords - b.writePos)

/-- Words placed by R158: the buffer after it, and whether they were written; they are not where lockout holds or begins. -/
def place (ws : List Word) (b : Buffer) : Buffer × Bool :=
  match openHalf b with
  | none => (b, false)
  | some h =>
    if fits b ws then (putWords h ws b, true)
    else
      let c := closeHalf h b
      match openHalf c with
      | some h' => (putWords h' ws c, true)
      | none => (c, false)

/-! ### GAP entries and skips (R159, R160) -/

/-- The GAP entry of the present skip counts. -/
def gapEntry (tick : BitVec 32) (c : Capture) : Entry :=
  .gap tick c.channels.c0.skips c.channels.c1.skips c.channels.c2.skips c.channels.c3.skips c.station.skips

/-- All five skip counts at 0. -/
def clearSkips (c : Capture) : Capture :=
  { channels := c.channels.map fun q => { q with skips := 0 }, station := { c.station with skips := 0 } }

/-- The GAP written, with the counts cleared in the same moment; where lockout begins it is not written and the counts are
kept (R160). -/
def writeGap (s : State) : State × Bool :=
  let p := place (entryWords (gapEntry s.tick s.capture)) s.buffer
  if p.2 then ((s.setBuffer p.1).setCapture (clearSkips s.capture), true) else (s.setBuffer p.1, false)

/-- The queue an entry came from: a channel's, or the station's. -/
inductive QueueName where
  | channel (k : Fin 4)
  | station
deriving DecidableEq, Repr

/-- A queue of the capture unit. -/
def queueOf (c : Capture) : QueueName → EntryQueue
  | .channel k => c.channels.get k
  | .station => c.station

/-- The capture unit with one queue replaced. -/
def setQueue (c : Capture) (n : QueueName) (q : EntryQueue) : Capture :=
  match n with
  | .channel k => { c with channels := c.channels.set k q }
  | .station => { c with station := q }

/-- A skip counted in a queue. -/
def countSkip (n : QueueName) (c : Capture) : Capture :=
  setQueue c n { queueOf c n with skips := satInc (queueOf c n).skips Config.max16 }

/-- The highest-priority queue that is not empty, with its head (R157). -/
def nextQueue (c : Capture) : Option (QueueName × Entry) :=
  match c.channels.c0.entries, c.channels.c1.entries, c.channels.c2.entries, c.channels.c3.entries, c.station.entries with
  | e :: _, _, _, _, _ => some (.channel 0, e)
  | [], e :: _, _, _, _ => some (.channel 1, e)
  | [], [], e :: _, _, _ => some (.channel 2, e)
  | [], [], [], e :: _, _ => some (.channel 3, e)
  | [], [], [], [], e :: _ => some (.station, e)
  | [], [], [], [], [] => none

/-- The capture unit after the head of a queue has left it. -/
def popQueue (n : QueueName) (c : Capture) : Capture :=
  setQueue c n { queueOf c n with entries := (queueOf c n).entries.tail }

/-- An entry of a queue written, or skipped and counted (R158). -/
def writeEntry (n : QueueName) (e : Entry) (s : State) : State :=
  let p := place (entryWords e) s.buffer
  if p.2 then s.setBuffer p.1 else (s.setBuffer p.1).setCapture (countSkip n s.capture)

/-- An entry taken by the writer: skipped in lockout, else written behind a GAP where one is due (R159, R160). -/
def writeTaken (n : QueueName) (e : Entry) (s : State) : State :=
  if s.buffer.lockout then s.setCapture (countSkip n s.capture)
  else if skipSum s.capture = 0 then writeEntry n e s
  else
    let g := writeGap s
    if g.2 then writeEntry n e g.1 else g.1.setCapture (countSkip n g.1.capture)

/-- The idle entry writer takes one entry (R157). While a FLUSH waits for the entry being written the writer is not idle (log
16). -/
def takeEntry (s : State) : State :=
  if s.port.deferred then s
  else
    match nextQueue s.capture with
    | none => s
    | some (n, e) => writeTaken n e (s.setCapture (popQueue n s.capture))

/-! ### The logger port (R161 to R165) -/

def answerOk : Word := 0x0000
def answerRefused : Word := 0x0001
def answerEmpty : Word := 0x0002
def answerError : Word := 0xFFFF

/-- An answer begun; the command's words are done with. -/
def answerWith (ws : List Word) (s : State) : State :=
  s.setPort { partialWords := [], answering := true, answer := ws, stream := none, deferred := false }

/-- STATUS complete (R162). -/
def doStatus (s : State) : State := answerWith (statusAnswer s.loader.startup s.buffer s.capture) s

/-- READ complete (R163). -/
def doRead (h o c : Word) (s : State) : State :=
  if h.toNat ≤ 1 ∧ o.toNat < Config.halfWords ∧ 1 ≤ c.toNat ∧ o.toNat + c.toNat ≤ Config.halfWords ∧
      halfState s.buffer h.toNat = .full then
    s.setPort ⟨[], true, [answerOk], some ⟨halfBase h.toNat + o.toNat, c.toNat⟩, false⟩
  else answerWith [answerError] s

/-- RELEASE complete (R159, R164). The GAP that follows the end of lockout is written in the same step (log 18). -/
def doRelease (h : Word) (s : State) : State :=
  if h.toNat ≤ 1 ∧ halfState s.buffer h.toNat = .full then
    if s.buffer.lockout then
      let b := { setHalf s.buffer h.toNat .opened with writePos := 0, lockout := false }
      answerWith [answerOk] (writeGap (s.setBuffer { b with ready := readyLevel b })).1
    else
      let b := setHalf s.buffer h.toNat .free
      answerWith [answerOk] (s.setBuffer { b with ready := readyLevel b })
  else answerWith [answerRefused] s

/-- FLUSH taken (R165). -/
def doFlush (s : State) : State :=
  match openHalf s.buffer with
  | none => answerWith [answerRefused] s
  | some h =>
    if s.buffer.writePos = 0 then answerWith [answerEmpty] s
    else answerWith [answerOk] (s.setBuffer (closeHalf h s.buffer))

/-- A command not yet complete. -/
def waitWords (ws : List Word) (s : State) : State := s.setPort { s.port with partialWords := ws }

/-- The port after the words of a command so far (R161). `writing` says whether the entry writer is writing an entry. -/
def commandWords (writing : Bool) (ws : List Word) (s : State) : State :=
  match ws with
  | [c] =>
    if c = 1 then doStatus s
    else if c = 4 then (if writing then s.setPort { s.port with partialWords := [], deferred := true } else doFlush s)
    else if c = 2 ∨ c = 3 then waitWords ws s
    else answerWith [answerError] s
  | [c, a] => if c = 3 then doRelease a s else waitWords ws s
  | [_, _, _] => waitWords ws s
  | [_, h, o, n] => doRead h o n s
  | _ => waitWords [] s

/-- A word that arrives on the port: discarded while a command is being answered or waits to be (R161, log 17). -/
def portWord (writing : Bool) (s : State) (w : Word) : State :=
  if s.port.answering || s.port.deferred then s else commandWords writing (s.port.partialWords ++ [w]) s

/-- Words that arrive one after another. -/
def portWords (writing : Bool) (ws : List Word) (s : State) : State := ws.foldl (portWord writing) s

/-! ### Meanings -/

/-- ENTRY_WRITER_TAKE (R157). -/
def execEntryWriterTake (s : State) : Host.Outcome State Fault Refusal := .next (takeEntry s)

/-- STATUS (R162). -/
def execStatus (s : State) : Host.Outcome State Fault Refusal := .next (portWords false [1] s)

/-- READ (R163). -/
def execRead (args : List Word) (s : State) : Host.Outcome State Fault Refusal := .next (portWords false (2 :: args) s)

/-- READ_WORD (R157, R163): the next word of the stream is fetched and sent. An address outside the RAM does not exist. -/
def execReadWord (s : State) : Host.Outcome State Fault Refusal :=
  match s.port.stream with
  | none => .next s
  | some st =>
    if st.addr < Config.ramWords then
      .next (s.setPort { s.port with
        answer := s.port.answer ++ [ramRead st.addr s.buffer.ram]
        stream := if st.left ≤ 1 then none else some ⟨st.addr + 1, st.left - 1⟩ })
    else .fault .ramAddress

/-- RELEASE (R164). -/
def execRelease (args : List Word) (s : State) : Host.Outcome State Fault Refusal := .next (portWords false (3 :: args) s)

/-- FLUSH (R165). -/
def execFlush (writing : Bool) (s : State) : Host.Outcome State Fault Refusal := .next (portWords writing [4] s)

/-- DEFERRED_FLUSH (R165): the entry that the FLUSH waited for is finished. -/
def execDeferredFlush (s : State) : Host.Outcome State Fault Refusal :=
  .next (if s.port.deferred then doFlush s else s)

/-- Whether a word is one of the four command codes (R161). -/
def commandCodeWord (w : Word) : Bool := decide (w = 1) || decide (w = 2) || decide (w = 3) || decide (w = 4)

/-- UNKNOWN_COMMAND_WORD (R161); a word of the four codes is not this event. -/
def execUnknownCommandWord (w : Word) (s : State) : Host.Outcome State Fault Refusal :=
  .next (if commandCodeWord w then s else portWord false s w)

/-- COMMAND_TIMEOUT (R161): a command not yet complete is discarded without an answer. -/
def execCommandTimeout (s : State) : Host.Outcome State Fault Refusal := .next (waitWords [] s)

/-- ANSWER_LAST_BYTE_SENT (R161): the answer is over; a READ whose words are still streaming has not sent its last byte. -/
def execAnswerLastByteSent (s : State) : Host.Outcome State Fault Refusal :=
  .next (if s.port.answering && s.port.stream.isNone then s.setPort { s.port with answering := false } else s)

end Sys2Proof.Machine
end

