-- ==== Sys2Proof/Machine/Profile.lean ====
section
/-! DEFINITION. The profile image: the checks of R167, the settings, and the decoding and validation of the eight
programs (R115, R116, R170, section 11.3). -/

namespace Sys2Proof.Machine

/-! ### Bytes of the image, more significant byte first -/

/-- The byte at an offset. -/
def img8 (img : List Byte) (o : Nat) : Nat := ((img[o]?).getD 0).toNat
/-- Two bytes, unsigned. -/
def img16 (img : List Byte) (o : Nat) : Nat := img8 img o * 256 + img8 img (o + 1)
/-- Four bytes, unsigned. -/
def img32 (img : List Byte) (o : Nat) : Nat := img16 img o * 65536 + img16 img (o + 2)
/-- Two bytes, two's complement. -/
def imgS16 (img : List Byte) (o : Nat) : Int := (BitVec.ofNat 16 (img16 img o)).toInt
/-- Four bytes, two's complement. -/
def imgS32 (img : List Byte) (o : Nat) : Int := (BitVec.ofNat 32 (img32 img o)).toInt

/-- Whether a number lies in a range. -/
def within (lo hi n : Nat) : Bool := decide (lo ≤ n) && decide (n ≤ hi)
/-- Whether a signed number lies in a range. -/
def withinS (lo hi n : Int) : Bool := decide (lo ≤ n) && decide (n ≤ hi)

/-! ### Header (R166, R167 check 1 and 2) -/

/-- The length field of the header. -/
def profileLength (img : List Byte) : Nat := img16 img 2
/-- Whether the length lies in 253..8192. -/
def lengthOk (img : List Byte) : Bool := within Config.minProfile Config.maxProfile (profileLength img)
/-- Check 1. -/
def headerOk (img : List Byte) : Bool := decide (img16 img 0 = Config.formatCode) && lengthOk img
/-- Check 2: the CRC-16 over bytes 6 to length - 1 against header bytes 4 and 5. -/
def crcOk (img : List Byte) : Bool :=
  decide ((crc16 ((img.take (profileLength img)).drop Config.headerBytes)).toNat = img16 img 4)

/-! ### Settings (section 11.3) -/

/-- The hold mode of a code; a code above 2 fails the station block check. -/
def holdModeOf (n : Nat) : HoldMode := if n = 1 then .freeze else if n = 2 then .restart else .pass

/-- Offset of channel `k` in the station block. -/
def channelOffset (k : Fin 4) : Nat := 10 + 10 * k.val

/-- The settings of channel `k`. -/
def channelSettings (img : List Byte) (k : Fin 4) : ChannelSettings where
  enable := decide (img8 img (channelOffset k) = 1)
  mode := holdModeOf (img8 img (channelOffset k + 1))
  ramp := img16 img (channelOffset k + 2)
  cvStep := img16 img (channelOffset k + 4)
  tolerance := img16 img (channelOffset k + 6)
  closeLimit := img8 img (channelOffset k + 8)
  openLimit := img8 img (channelOffset k + 9)

/-- Offset of the limits of channel `k` in band `b`. -/
def limitsOffset (b k : Fin 4) : Nat := 69 + 40 * b.val + 10 * k.val

/-- The limits of channel `k` in band `b`. -/
def bandLimits (img : List Byte) (b k : Fin 4) : Limits where
  chgMax := img16 img (limitsOffset b k)
  disMax := img16 img (limitsOffset b k + 2)
  vMax := img16 img (limitsOffset b k + 4)
  vMin := img16 img (limitsOffset b k + 6)
  tMax := imgS16 img (limitsOffset b k + 8)

/-- All settings of an image. -/
def settingsOf (img : List Byte) : Settings where
  station := img8 img 6
  aIsl := img8 img 7
  pFrame := img16 img 8
  channels := Quad.tab (channelSettings img)
  pRound := img8 img 50
  q := img16 img 51
  lImp := img16 img 53
  lExp := img16 img 55
  guard := img16 img 57
  floor := img8 img 59
  window := img8 img 60
  t1 := imgS16 img 61
  t2 := imgS16 img 63
  t3 := imgS16 img 65
  hyst := imgS16 img 67
  bands := Quad.tab fun b => Quad.tab fun k => bandLimits img b k

/-- Check 3 for one channel, enabled or not. -/
def channelBlockOk (img : List Byte) (k : Fin 4) : Bool :=
  within 0 1 (img8 img (channelOffset k)) &&
  within 0 2 (img8 img (channelOffset k + 1)) &&
  within 1 Config.maxCurrent (channelSettings img k).ramp &&
  within 1 Config.maxCurrent (channelSettings img k).cvStep &&
  within 0 Config.maxCurrent (channelSettings img k).tolerance &&
  within 5 250 (channelSettings img k).closeLimit &&
  within 5 250 (channelSettings img k).openLimit

/-- Check 3: the station block. -/
def stationBlockOk (img : List Byte) : Bool :=
  within 1 48 (settingsOf img).station &&
  within 0 200 (settingsOf img).aIsl &&
  within 2 2000 (settingsOf img).pFrame &&
  channelBlockOk img 0 && channelBlockOk img 1 && channelBlockOk img 2 && channelBlockOk img 3

/-- Check 4: the hall block. -/
def hallBlockOk (st : Settings) : Bool :=
  within 8 40 st.pRound &&
  within 10 2000 st.q &&
  within 0 4000 st.guard &&
  within 0 50 st.floor &&
  within 5 100 st.window &&
  decide (st.guard ≤ st.lImp) &&
  decide (st.guard ≤ st.lExp)

/-- The current limits of one channel in one band are in range. -/
def limitsOk (l : Limits) : Bool := decide (l.chgMax ≤ Config.maxCurrent) && decide (l.disMax ≤ Config.maxCurrent)

/-- Check 5: the band block. -/
def bandBlockOk (st : Settings) : Bool :=
  withinS (-400) 1500 st.t1 && withinS (-400) 1500 st.t2 && withinS (-400) 1500 st.t3 &&
  decide (st.t1 < st.t2) && decide (st.t2 < st.t3) &&
  withinS 0 1900 st.hyst &&
  st.bands.toList.all fun b => b.toList.all limitsOk

/-- The five checks of R167, in order. -/
def profileOk (img : List Byte) : Bool :=
  headerOk img && crcOk img && stationBlockOk img && hallBlockOk (settingsOf img) && bandBlockOk (settingsOf img)

/-- The hall digest: the CRC-16 over the 11 bytes of the hall block (R168). -/
def hallDigest (img : List Byte) : Word := crc16 ((img.drop 50).take 11)

/-! ### Step records (R115, R170) -/

/-- The quantity of a code. -/
def quantityOf (n : Nat) : Option Quantity :=
  match n with
  | 1 => some .voltage
  | 2 => some .temperature
  | 3 => some .currentMag
  | 4 => some .stepTime
  | 5 => some .stepCharge
  | 6 => some .stepEnergy
  | 7 => some .starvedRounds
  | 8 => some .pulseCount
  | _ => none

/-- Whether a comparison is permitted for a quantity (R113); true is `≥`. -/
def comparisonOk (q : Quantity) (ge : Bool) : Bool :=
  match q with
  | .voltage => true
  | .temperature => true
  | .currentMag => !ge
  | .stepTime => ge
  | .stepCharge => ge
  | .stepEnergy => ge
  | .starvedRounds => ge
  | .pulseCount => ge

/-- Whether a threshold lies in the range of its quantity (R113). -/
def thresholdOk (q : Quantity) (x : Int) : Bool :=
  match q with
  | .voltage => withinS 0 65535 x
  | .temperature => withinS (-400) 1500 x
  | .currentMag => withinS 0 30000 x
  | .stepTime => withinS 0 4294967295 x
  | .stepCharge => withinS 0 4294967295 x
  | .stepEnergy => withinS 0 4294967295 x
  | .starvedRounds => withinS 0 65535 x
  | .pulseCount => withinS 0 65535 x

/-- The comparison of a code; true is `≥`. -/
def comparisonOf (n : Nat) : Option Bool := if n = 1 then some true else if n = 2 then some false else none

/-- The action of a code; a GOTO target must lie in the program (R115). -/
def actionOf (len code target : Nat) : Option Action :=
  if code = 1 then some .next
  else if code = 2 then (if target < len then some (.goto target) else none)
  else if code = 3 then some .finish
  else none

/-- The term at an offset, for a program of `len` steps; `none` where a check of R115 fails. -/
def termAt (img : List Byte) (len o : Nat) : Option Term :=
  match quantityOf (img8 img o), comparisonOf (img8 img (o + 1)), actionOf len (img8 img (o + 2)) (img8 img (o + 3)) with
  | some q, some ge, some act =>
    let x : Int := if q = .temperature then imgS32 img (o + 4) else (img32 img (o + 4) : Int)
    if comparisonOk q ge && thresholdOk q x then some ⟨q, ge, x, act⟩ else none
  | _, _, _ => none

/-- The first `n` of the three terms of a record. -/
def termsAt (img : List Byte) (len o : Nat) : Nat → Option (List Term)
  | 0 => some []
  | n + 1 =>
    match termAt img len o, termsAt img len (o + 8) n with
    | some t, some ts => some (t :: ts)
    | _, _ => none

/-- The kind of the record at an offset with its setpoint fields, checked by R115. -/
def kindAt (img : List Byte) (pFrame o : Nat) : Option StepKind :=
  match img8 img o with
  | 1 => if img16 img (o + 5) ≤ Config.maxCurrent then some (.chargeCC (img16 img (o + 5))) else none
  | 2 => if img16 img (o + 7) ≤ Config.maxCurrent then some (.chargeCV (img16 img (o + 5)) (img16 img (o + 7))) else none
  | 3 => if img16 img (o + 5) ≤ Config.maxCurrent then some (.dischargeCC (img16 img (o + 5))) else none
  | 4 => if img32 img (o + 5) ≤ 200000 then some (.dischargeCP (img32 img (o + 5))) else none
  | 5 => some .rest
  | 6 =>
    let a := imgS16 img (o + 5)
    let b := imgS16 img (o + 7)
    let n := img16 img (o + 9)
    if withinS (-30000) 30000 a && withinS (-30000) 30000 b && within 1 (pFrame - 1) n &&
        !(decide (0 < a ∧ b < 0) || decide (a < 0 ∧ 0 < b))
    then some (.pulse a b n) else none
  | 7 => some (.loop (img8 img (o + 5)) (decide (img8 img (o + 6) ≠ 0)) (img16 img (o + 7)))
  | 8 => some .finish
  | _ => none

/-- The capture mode of a code. -/
def captureOf (n : Nat) : Option CaptureMode :=
  match n with
  | 0 => some .off
  | 1 => some .interval
  | 2 => some .fraction
  | _ => none

/-- Whether a step is a working step (R113). -/
def StepKind.working : StepKind → Bool
  | .loop _ _ _ => false
  | .finish => false
  | .chargeCC _ => true
  | .chargeCV _ _ => true
  | .dischargeCC _ => true
  | .dischargeCP _ => true
  | .rest => true
  | .pulse _ _ _ => true

/-- The step record at an offset, for a program of `len` steps; `none` where a check of R115 fails. -/
def stepAt (img : List Byte) (pFrame len o : Nat) : Option Step :=
  match kindAt img pFrame o with
  | none => none
  | some kind =>
    if kind.working then
      match captureOf (img8 img (o + 2)) with
      | none => none
      | some cap =>
        if img8 img (o + 1) ≤ 2 ∧ img16 img (o + 3) ≤ Config.captureTop ∧ img8 img (o + 13) ≤ 3 then
          (termsAt img len (o + 14) (img8 img (o + 13))).map fun ts => ⟨kind, img8 img (o + 1), cap, img16 img (o + 3), ts⟩
        else none
    else if img8 img (o + 13) = 0 then some ⟨kind, 0, .off, 0, []⟩ else none

/-- `n` step records from an offset on, for a program of `len` steps. -/
def stepsAt (img : List Byte) (pFrame len o : Nat) : Nat → Option (List Step)
  | 0 => some []
  | n + 1 =>
    match stepAt img pFrame len o, stepsAt img pFrame len (o + 38) n with
    | some s, some ss => some (s :: ss)
    | _, _ => none

/-! ### Loop structure (R116) -/

/-- The loop ranges of a program, each (target, own index), from index `i` on. -/
def loopRanges (i : Nat) : List Step → List (Nat × Nat)
  | [] => []
  | s :: r =>
    match s.kind with
    | .loop t _ _ => (t, i) :: loopRanges (i + 1) r
    | _ => loopRanges (i + 1) r

/-- Whether the step at an index is a LOOP step. -/
def isLoopAt (steps : List Step) (i : Nat) : Bool :=
  match steps[i]? with
  | some ⟨.loop _ _ _, _, _, _, _⟩ => true
  | _ => false

/-- Two ranges are disjoint or nested. -/
def rangesFit (a b : Nat × Nat) : Bool :=
  decide (a.2 < b.1) || decide (b.2 < a.1) || decide (a.1 ≤ b.1 ∧ b.2 ≤ a.2) || decide (b.1 ≤ a.1 ∧ a.2 ≤ b.2)

/-- The loop checks of R116. -/
def loopsOk (steps : List Step) : Bool :=
  (loopRanges 0 steps).all (fun r => decide (r.1 < r.2) && !isLoopAt steps r.1) &&
  (loopRanges 0 steps).all (fun a => (loopRanges 0 steps).all fun b => rangesFit a b) &&
  (List.range steps.length).all fun i =>
    decide (((loopRanges 0 steps).filter fun r => decide (r.1 ≤ i ∧ i ≤ r.2)).length ≤ 2)

/-! ### Programs (R115, R116, R170) -/

/-- Offset of the directory entry of program `p`. -/
def directoryOffset (p : Nat) : Nat := 229 + 3 * p
/-- Offset of the first step record of program `p` in the image. -/
def firstRecord (img : List Byte) (p : Nat) : Nat := 229 + img16 img (directoryOffset p)
/-- The step count of program `p`. -/
def stepCount (img : List Byte) (p : Nat) : Nat := img8 img (directoryOffset p + 2)

/-- Program `p` of an image, decoded and marked. -/
def programAt (img : List Byte) (p : Nat) : Program :=
  if stepCount img p = 0 ∨ 32 < stepCount img p ∨ profileLength img < firstRecord img p + 38 * stepCount img p then
    Program.absent
  else
    match stepsAt img (settingsOf img).pFrame (stepCount img p) (firstRecord img p) (stepCount img p) with
    | none => Program.absent
    | some steps => if loopsOk steps then ⟨true, steps⟩ else Program.absent

/-- The eight programs of an image. -/
def programsOf (img : List Byte) : List Program := (List.range 8).map (programAt img)

end Sys2Proof.Machine
end

