-- ==== Sys2Proof/Machine/StartUp.lean ====
section
/-! DEFINITION. Reset and the profile loader (R166 to R169), and the meanings of their rows. -/

namespace Sys2Proof.Machine

/-- PROFILE_FAULT (R167). -/
def enterProfileFault (s : State) (img : List Byte) : State :=
  s.setLoader { s.loader with startup := .profileFault, image := img }

/-- READY (R168): the settings, the hall digest, the programs and the hold modes are set; the round timer starts at phase 0 with
round number 0, the lock unit enters SEARCH, the pulse frame counter starts at position 0. -/
def enterReady (s : State) (img : List Byte) : State :=
  let st := settingsOf img
  { s with
    loader := ⟨.ready, img, hallDigest img, st, programsOf img⟩
    channels := Quad.tab fun k => { s.channels.get k with holdMode := (st.channels.get k).mode }
    timer := { s.timer with phase := 0, round := 0 }
    lock := enterSearch st.station s.lock
    framePos := 0 }

/-- The reset input (R166 and the reset values of every chapter): everything but the queue of commands. -/
def resetState (s : State) : State := { State.reset with pending := s.pending, draws := s.draws }

/-- The six header bytes have been read (R166): a length outside 253..8192 stops the read and fails the header check. -/
def readHeader (header : List Byte) (s : State) : State :=
  if s.loader.startup = .loading ∧ s.loader.image = [] ∧ header.length = Config.headerBytes then
    if lengthOk header then s.setLoader { s.loader with image := header } else enterProfileFault s header
  else s

/-- The last byte has been read (R167, R168): it is the last only when the image has the length of its header (log 27). -/
def readComplete (rest : List Byte) (s : State) : State :=
  let img := s.loader.image ++ rest
  if s.loader.startup = .loading ∧ s.loader.image.length = Config.headerBytes ∧ img.length = profileLength img then
    if profileOk img then enterReady s img else enterProfileFault s img
  else s

/-- RESET (R166). -/
def execReset (s : State) : Host.Outcome State Fault Refusal := .next (resetState s)

/-- PROFILE_HEADER_READ (R166). -/
def execProfileHeaderRead (header : List Byte) (s : State) : Host.Outcome State Fault Refusal := .next (readHeader header s)

/-- PROFILE_READ_COMPLETE (R167). -/
def execProfileReadComplete (rest : List Byte) (s : State) : Host.Outcome State Fault Refusal := .next (readComplete rest s)

end Sys2Proof.Machine
end

