-- ==== Sys2Proof/Machine/Dispatch.lean ====
section
/-! DEFINITION. One arm per command: the meaning it calls. -/

namespace Sys2Proof.Machine

/-- The effect of a command on everything but the queue. -/
def exec (i : Instr) (s : State) : Host.Outcome State Fault Refusal :=
  match i with
  | .reset => Sys2Proof.Machine.execReset s
  | .profileHeaderRead header => Sys2Proof.Machine.execProfileHeaderRead header s
  | .profileReadComplete rest => Sys2Proof.Machine.execProfileReadComplete rest s
  | .controlPeriod inp => Sys2Proof.Machine.execControlPeriod inp s
  | .stopLevelChange inp => Sys2Proof.Machine.execStopLevelChange inp s
  | .filterLevelChange inp => Sys2Proof.Machine.execFilterLevelChange inp s
  | .persistenceDetect inp => Sys2Proof.Machine.execPersistenceDetect inp s
  | .closeLimit inp => Sys2Proof.Machine.execCloseLimit inp s
  | .openLimit inp => Sys2Proof.Machine.execOpenLimit inp s
  | .frameBoundary inp => Sys2Proof.Machine.execFrameBoundary inp s
  | .sampleCapture inp => Sys2Proof.Machine.execSampleCapture inp s
  | .roundStart => Sys2Proof.Machine.execRoundStart s
  | .selfStart => Sys2Proof.Machine.execSelfStart s
  | .cautionOff cause => Sys2Proof.Machine.execCautionOff cause s
  | .islandedOmitted cause => Sys2Proof.Machine.execIslandedOmitted cause s
  | .rejoin cause => Sys2Proof.Machine.execRejoin cause s
  | .demandLatch => Sys2Proof.Machine.execDemandLatch s
  | .shareFrameSend => Sys2Proof.Machine.execShareFrameSend s
  | .walkStart => Sys2Proof.Machine.execWalkStart s
  | .walkCompletion => Sys2Proof.Machine.execWalkCompletion s
  | .markReceived f arr => Sys2Proof.Machine.execMarkReceived f arr s
  | .enterLocked f arr => Sys2Proof.Machine.execEnterLocked f arr s
  | .markWindowPasses => Sys2Proof.Machine.execMarkWindowPasses s
  | .coastLimit cause => Sys2Proof.Machine.execCoastLimit cause s
  | .returnToSearch => Sys2Proof.Machine.execReturnToSearch s
  | .markReadback bytes => Sys2Proof.Machine.execMarkReadback bytes s
  | .claimFailed bytes => Sys2Proof.Machine.execClaimFailed bytes s
  | .shareReadback bytes => Sys2Proof.Machine.execShareReadback bytes s
  | .numberConflict bytes => Sys2Proof.Machine.execNumberConflict bytes s
  | .shareReceived f arr => Sys2Proof.Machine.execShareReceived f arr s
  | .frameCheckFailed bytes => Sys2Proof.Machine.execFrameCheckFailed bytes s
  | .start f arr => Sys2Proof.Machine.execStart f arr s
  | .abort f arr => Sys2Proof.Machine.execAbort f arr s
  | .forceStop f arr => Sys2Proof.Machine.execForceStop f arr s
  | .hold f arr => Sys2Proof.Machine.execHold f arr s
  | .resume f arr => Sys2Proof.Machine.execResume f arr s
  | .clearFault f arr => Sys2Proof.Machine.execClearFault f arr s
  | .setHoldMode f arr => Sys2Proof.Machine.execSetHoldMode f arr s
  | .nextStep f arr => Sys2Proof.Machine.execNextStep f arr s
  | .noCommand f arr => Sys2Proof.Machine.execNoCommand f arr s
  | .entryWriterTake => Sys2Proof.Machine.execEntryWriterTake s
  | .status => Sys2Proof.Machine.execStatus s
  | .read args => Sys2Proof.Machine.execRead args s
  | .readWord => Sys2Proof.Machine.execReadWord s
  | .release args => Sys2Proof.Machine.execRelease args s
  | .flush writing => Sys2Proof.Machine.execFlush writing s
  | .deferredFlush => Sys2Proof.Machine.execDeferredFlush s
  | .unknownCommandWord w => Sys2Proof.Machine.execUnknownCommandWord w s
  | .commandTimeout => Sys2Proof.Machine.execCommandTimeout s
  | .answerLastByteSent => Sys2Proof.Machine.execAnswerLastByteSent s

end Sys2Proof.Machine
end

