-- ==== Sys2Proof/Safety.lean ====
section
/-! DEFINITION. What stays true of the part in every step: the predicates the invariant statements are about. -/

namespace Sys2Proof.Machine

/-! ### The result buffer (R158, R159) -/

/-- The RAM keeps its canonical form, at most one half is OPEN, none is OPEN exactly while lockout holds, the write position
stays inside a half and is 0 in lockout, and READY is asserted exactly while a half is FULL. -/
def BufferInv (b : Buffer) : Prop :=
  Memory.wf b.ram = true ∧
  ¬ (b.half0 = .opened ∧ b.half1 = .opened) ∧
  (b.lockout = true ↔ b.half0 ≠ .opened ∧ b.half1 ≠ .opened) ∧
  b.writePos ≤ Config.halfWords ∧
  (b.lockout = true → b.writePos = 0) ∧
  b.ready = readyLevel b

/-! ### The entry queues (R156) -/

/-- Each of the five queues holds at most four entries, and no skip count passes 65535. -/
def QueueInv (q : EntryQueue) : Prop := q.entries.length ≤ Config.queueDepth ∧ q.skips ≤ Config.max16

/-- All five queues. -/
def CaptureInv (c : Capture) : Prop := (∀ k, QueueInv (c.channels.get k)) ∧ QueueInv c.station

/-! ### The heard table (section 2.3) -/

/-- The carry count that belongs to a status. -/
def CarryFits (e : HeardEntry) : Prop :=
  match e.status with
  | .present => e.carry = 0
  | .carried => e.carry = 1 ∨ e.carry = 2
  | .absent => e.carry = 0

/-- 48 entries, each with a carry count that belongs to its status. -/
def HeardInv (h : HeardTable) : Prop := h.entries.length = 48 ∧ ∀ e ∈ h.entries, CarryFits e

/-! ### The link: lock unit, membership, transceiver (R3, R5, R7, R22, R66, R68) -/

/-- What stands on the line is permitted, unless it has been cut off. -/
def LineFits (line : Option LineFrame) (lock : Lock) (m : MemberState) : Prop :=
  match line with
  | none => True
  | some (.mark _ cut) => cut = false → lock.pacer = true
  | some (.share _ cut) => cut = false → sharePermitted lock.state m = true

/-- Before READY the lock unit rests in SEARCH, nothing is on the line and the station is OUTSIDE; the pacer flag is held only
in LOCKED; an EXCLUDED station is in ACQUIRE; an uncut frame on the line is permitted; the counts stay in their ranges. -/
def LinkInv (s : State) : Prop :=
  (s.loader.startup ≠ .ready →
    s.lock.state = .search ∧ s.link.line = none ∧ s.member.state = .outside) ∧
  (s.lock.pacer = true → s.lock.state = .locked) ∧
  (s.member.state = .excluded → s.lock.state = .acquire) ∧
  LineFits s.link.line s.lock s.member.state ∧
  s.lock.lockCount ≤ Config.lockLimit ∧
  s.lock.missed ≤ Config.missedLimit ∧
  s.lock.claimFails < Config.claimLimit

/-! ### Channels (R74, R83, R94, R113, R117, R134, R155) -/

/-- The converter runs only through a closed contactor, and only in RUNNING, HELD or STOPPING (R83). -/
def ConverterFits (ch : Channel) : Prop :=
  ch.enabled = true → regulates ch.state = true ∧ ch.drive = true ∧ ch.feedback.level = true

/-- The setpoint is 0 outside RUNNING, HELD and STOPPING (R99). -/
def SetpointFits (ch : Channel) : Prop := regulates ch.state = false → ch.setpoint = 0

/-- The pulse pairs are cleared outside RUNNING and HELD (R134). -/
def PairsFit (ch : Channel) : Prop :=
  ch.state ≠ .running → ch.state ≠ .held → ch.live = LivePair.clear ∧ ch.staged = StagedPair.clear

/-- A FAULTED channel has a primary cause; every state but OPENING and FAULTED has an empty fault record (R94, R95). -/
def RecordFits (ch : Channel) : Prop :=
  (ch.state = .faulted → ch.record.isSome = true) ∧
  (ch.state ≠ .faulted → ch.state ≠ .opening → ch.record = none)

/-- The capture accumulator and its step value lie in 0..1023 (R155). -/
def PacerFits (p : Pacer) : Prop := p.acc ≤ Config.captureTop ∧ p.d ≤ Config.captureTop

/-- In RUNNING and HELD a step is current and not ended; in CLOSING no step has been entered and the capture pacer is OFF; in
STOPPING no step is left to end; there are three persistence counts (R113, R117, R118, R130, R154). -/
def StepFits (ch : Channel) : Prop :=
  (ch.state = .running ∨ ch.state = .held → ch.sequencer.index.isSome = true ∧ ch.sequencer.ended = false) ∧
  (ch.state = .closing → ch.sequencer.index = none ∧ ch.sequencer.ended = false ∧ ch.pacer = Pacer.off) ∧
  (ch.state = .stopping → ch.sequencer.index = none ∨ ch.sequencer.ended = true) ∧
  ch.sequencer.counters.terms.length = 3

/-- What holds of one channel. -/
def ChannelInv (ch : Channel) : Prop :=
  ConverterFits ch ∧ SetpointFits ch ∧ PairsFit ch ∧ RecordFits ch ∧ PacerFits ch.pacer ∧ StepFits ch

/-- Every step value of every program lies in 0..1023 (R115), and every program passes the loop checks (R116). -/
def ProgramsFit (programs : List Program) : Prop :=
  ∀ p ∈ programs, (∀ st ∈ p.steps, st.d ≤ Config.captureTop) ∧ loopsOk p.steps = true

/-- A channel that does no work: before READY every channel, after it a disabled one (R74). -/
def Rests (s : State) (k : Fin 4) : Prop :=
  s.loader.startup ≠ .ready ∨ (s.loader.settings.channels.get k).enable = false

/-- A resting channel is IDLE with no run request, its contactor drive open, its converter disabled and its setpoint 0. -/
def RestsIdle (ch : Channel) : Prop :=
  ch.state = .idle ∧ ch.runRequest = false ∧ ch.drive = false ∧ ch.enabled = false ∧ ch.setpoint = 0

/-- What holds of the four channels and the programs they run. -/
def ChannelsInv (s : State) : Prop :=
  ProgramsFit s.loader.programs ∧ ∀ k, ChannelInv (s.channels.get k) ∧ (Rests s k → RestsIdle (s.channels.get k))

/-! ### Together -/

/-- Everything above. -/
def Inv (s : State) : Prop :=
  BufferInv s.buffer ∧ CaptureInv s.capture ∧ HeardInv s.heard ∧ LinkInv s ∧ ChannelsInv s

end Sys2Proof.Machine
end

