-- ==== Sys2Proof/Certificates/Slice0/Obligations.lean ====
section
/-! DEFINITION. The statements for the provers, one `def Obligations.<Name> : Prop` each, with the words they are written in. -/

namespace Sys2Proof.Machine

/-! ### What an event leaves alone -/

/-- A control period touches the tick count, the frame counter, the stop line monitor, the channels and their queues; every
byte of the result RAM and everything else stays. -/
abbrev PeriodFrame (s t : State) : Prop :=
  t.tick = s.tick + 1 ∧ t.pending = s.pending ∧ t.draws = s.draws ∧ t.loader = s.loader ∧ t.timer = s.timer ∧
  t.link = s.link ∧ t.lock = s.lock ∧ t.heard = s.heard ∧ t.walk = s.walk ∧ t.member = s.member ∧
  t.console = s.console ∧ t.buffer = s.buffer ∧ t.port = s.port ∧ t.capture.station = s.capture.station

/-- A link event leaves the profile, the tick count, the frame counter, the stop line monitor, the console decoder, the
channels' queues, the result buffer with every word of its RAM, and the logger port. -/
abbrev LinkFrame (s t : State) : Prop :=
  t.pending = s.pending ∧ t.loader = s.loader ∧ t.tick = s.tick ∧ t.framePos = s.framePos ∧ t.stopLine = s.stopLine ∧
  t.console = s.console ∧ t.capture.channels = s.capture.channels ∧ t.buffer = s.buffer ∧ t.port = s.port

/-- Of a channel a round start changes at most the starved-round count (R112). -/
abbrev OnlyStarved (s t : State) : Prop :=
  ∀ k, ∃ n, t.channels.get k =
    { s.channels.get k with sequencer := { (s.channels.get k).sequencer with
        counters := { (s.channels.get k).sequencer.counters with starved := n } } }

/-- A console frame leaves everything but the phase of the round timer, the channels, the console decoder and the station
queue. -/
abbrev ConsoleKeeps (s t : State) : Prop :=
  t.pending = s.pending ∧ t.draws = s.draws ∧ t.loader = s.loader ∧ t.tick = s.tick ∧ t.timer.round = s.timer.round ∧
  t.link = s.link ∧ t.lock = s.lock ∧ t.heard = s.heard ∧ t.walk = s.walk ∧ t.member = s.member ∧
  t.framePos = s.framePos ∧ t.stopLine = s.stopLine ∧ t.capture.channels = s.capture.channels ∧ t.buffer = s.buffer ∧
  t.port = s.port

/-- The entry writer and the logger port leave everything but the capture unit, the result buffer and the port. -/
abbrev PortFrame (s t : State) : Prop :=
  t.pending = s.pending ∧ t.draws = s.draws ∧ t.loader = s.loader ∧ t.tick = s.tick ∧ t.timer = s.timer ∧
  t.link = s.link ∧ t.lock = s.lock ∧ t.heard = s.heard ∧ t.walk = s.walk ∧ t.member = s.member ∧
  t.channels = s.channels ∧ t.framePos = s.framePos ∧ t.stopLine = s.stopLine ∧ t.console = s.console

/-! ### A channel in a control period -/

/-- The loader is in READY. -/
abbrev Ready (s : State) : Prop := s.loader.startup = .ready

/-- The loader is in READY and channel `k` is enabled: it works in every control period. -/
abbrev Works (s : State) (k : Fin 4) : Prop := Ready s ∧ (s.loader.settings.channels.get k).enable = true

/-- The band decided in stage 1 of the period. -/
abbrev bandAfter (s : State) (inp : PeriodInput) (k : Fin 4) : Fin 4 :=
  bandNext s.loader.settings (inp.channels.get k).t.toInt (s.channels.get k).band

/-- The limits of the band decided in stage 1. -/
abbrev limitsAfter (s : State) (inp : PeriodInput) (k : Fin 4) : Limits :=
  limitsOf s.loader.settings (bandAfter s inp k) k

/-- Whether the filtered contactor feedback reads closed after stage 1. -/
abbrev closedAfter (s : State) (inp : PeriodInput) (k : Fin 4) : Bool :=
  (filterSample (s.channels.get k).feedback (inp.channels.get k).feedback).level

/-- Whether the filtered converter fault reads asserted after stage 1. -/
abbrev faultAfter (s : State) (inp : PeriodInput) (k : Fin 4) : Bool :=
  (filterSample (s.channels.get k).fault (inp.channels.get k).fault).level

/-- The filtered hall stop level as the channel reads it: after the monitor's update of the period, or before it (R79). -/
abbrev stopSeen (s : State) (inp : PeriodInput) (k : Fin 4) : Bool :=
  if (inp.channels.get k).afterMonitor then (filterSample s.stopLine inp.stopLine).level else s.stopLine.level

/-- The causes that stage 2 of the period detects, in the order of the table of R91. -/
abbrev causesOf (s : State) (inp : PeriodInput) (k : Fin 4) : List Cause :=
  detected (periodEnv s inp k) (measure (periodEnv s inp k) (s.channels.get k))

/-- The hold flag is set and the channel's hold mode answers it. -/
abbrev HoldSeen (s : State) (k : Fin 4) : Prop := s.console.hold = true ∧ (s.channels.get k).holdMode ≠ .pass

/-- The channel's current step. -/
abbrev stepNow (s : State) (k : Fin 4) : Option Step := currentStep s.loader.programs (s.channels.get k)

/-- The period works the channel's step on: it brings no fault and no stop, and the channel is RUNNING with no hold, or HELD
and released under FREEZE. -/
abbrev RunsOn (s : State) (inp : PeriodInput) (k : Fin 4) : Prop :=
  Works s k ∧ (s.channels.get k).stopRequest = .none ∧ causesOf s inp k = [] ∧
  (((s.channels.get k).state = .running ∧ ¬ HoldSeen s k) ∨
    ((s.channels.get k).state = .held ∧ s.console.hold = false ∧ (s.channels.get k).holdMode = .freeze))

/-- The magnitude of the measured current, in codes. -/
abbrev currentOf (inp : PeriodInput) (k : Fin 4) : Nat := (inp.channels.get k).i.toInt.natAbs

/-- A fault record of the period with the given causes and step index. -/
abbrev recordOf (s : State) (inp : PeriodInput) (k : Fin 4) (c : Cause) (c2 : Option Cause) (step : Option Nat) : FaultRecord :=
  ⟨c, c2, s.tick + 1, step, (inp.channels.get k).v, (inp.channels.get k).i, (inp.channels.get k).t⟩

/-- The threshold of band `n`, 1..3. -/
def thresholdOf (st : Settings) (n : Nat) : Int := if n = 1 then st.t1 else if n = 2 then st.t2 else st.t3

/-- `b` is the highest band up to `top` that satisfies a test. -/
def HighestBand (test : Nat → Prop) (top b : Nat) : Prop := b ≤ top ∧ test b ∧ ∀ j, b < j → j ≤ top → ¬ test j

/-- A filter after a sample (R78): an equal sample clears the run count, a first or second differing one raises it, and the
third gives the filter its level. -/
abbrev FilteredBy (f : Filter) (sample : Bool) (f' : Filter) : Prop :=
  (sample = f.level → f' = ⟨f.level, 0⟩) ∧
  (sample ≠ f.level → (f.run < 2 → f' = ⟨f.level, f.run + 1⟩) ∧ (f.run = 2 → f' = ⟨sample, 0⟩))

/-- The states in which the three limit causes are armed (R91). -/
abbrev LimitsArmed (c : ChannelState) : Prop := c ∈ ([.closing, .running, .held, .stopping, .opening, .faulted] : List ChannelState)

/-- The states in which CURRENT_DEVIATION is armed (R91). -/
abbrev DeviationArmed (c : ChannelState) : Prop := c ∈ ([.running, .held, .stopping] : List ChannelState)

/-- A persistence count after a period (R92): it rises by one to its top and stays there while the condition holds in a state
that arms the cause, and is 0 where the condition does not hold or a state, before or after the period, does not arm it. -/
abbrev PersistsAs (n top : Nat) (armed cond armedAfter : Prop) (n' : Nat) : Prop :=
  (armed ∧ cond ∧ armedAfter → (n < top → n' = n + 1) ∧ (n = top → n' = top)) ∧
  (¬ (armed ∧ cond ∧ armedAfter) → n' = 0)

/-! ### A step in a control period -/

/-- The step counters after the period is counted (R120), with the frame that ends at its boundary (R136). -/
def countedAfter (s : State) (inp : PeriodInput) (k : Fin 4) : Counters :=
  let c := (s.channels.get k).sequencer.counters
  { c with
    time := satInc c.time 4294967295
    charge := min (c.charge + currentOf inp k) 18446744073709551615
    energy := min (c.energy + currentOf inp k * (inp.channels.get k).v.toNat) 18446744073709551615
    pulses :=
      if s.framePos = 0 ∧ (s.channels.get k).live.active = true ∧ (s.channels.get k).staged.valid = false then
        satInc c.pulses 65535
      else c.pulses }

/-- What a term compares with its threshold (R121). -/
def termValue (s : State) (inp : PeriodInput) (k : Fin 4) : Quantity → Int
  | .voltage => (inp.channels.get k).v.toNat
  | .temperature => (inp.channels.get k).t.toInt
  | .currentMag => currentOf inp k
  | .stepTime => (countedAfter s inp k).time
  | .stepCharge => (min ((countedAfter s inp k).charge / 360000) 4294967295 : Nat)
  | .stepEnergy => (min ((countedAfter s inp k).energy / 36000000000) 4294967295 : Nat)
  | .starvedRounds => (countedAfter s inp k).starved
  | .pulseCount => (countedAfter s inp k).pulses

/-- The condition of a term holds in the period (R121). -/
abbrev TermTrue (s : State) (inp : PeriodInput) (k : Fin 4) (t : Term) : Prop :=
  (t.ge = true → t.threshold ≤ termValue s inp k t.quantity) ∧ (t.ge = false → termValue s inp k t.quantity ≤ t.threshold)

/-- The quantities with a persistence of 3 periods (R113). -/
abbrev Lasting (q : Quantity) : Prop := q = .voltage ∨ q = .temperature ∨ q = .currentMag

/-- The persistence count of the term at place `j` after the period: 0 for a CURRENT_MAG term under the limited flag of the
period before, one more where its condition holds, else 0 (R121, R122). -/
def termCountAfter (s : State) (inp : PeriodInput) (k : Fin 4) (j : Nat) (t : Term) : Nat :=
  if t.quantity = .currentMag ∧ (s.channels.get k).regulator.limitedFlag = true then 0
  else if TermTrue s inp k t then min (((s.channels.get k).sequencer.counters.terms[j]?).getD 0 + 1) 3
  else 0

/-- The term at place `j` is satisfied in the period (R121). -/
abbrev TermMet (s : State) (inp : PeriodInput) (k : Fin 4) (j : Nat) (t : Term) : Prop :=
  (Lasting t.quantity ∧ termCountAfter s inp k j t = 3) ∨ (¬ Lasting t.quantity ∧ TermTrue s inp k t)

/-- No next-step request waits and no term of the current step is satisfied in the period: the period does not end it. -/
abbrev StepGoesOn (s : State) (inp : PeriodInput) (k : Fin 4) : Prop :=
  (∃ st, stepNow s k = some st ∧ ∀ j t, st.terms[j]? = some t → ¬ TermMet s inp k j t) ∧
  (s.channels.get k).sequencer.nextRequest = false

/-- Where the end of step `i` leads (R123): the destination of its action, resolved, with loop stack and cycle count after. -/
def destination (steps : List Step) (i : Nat) (act : Action) (stack : List LoopEntry) (cycles : Nat) : Resolved :=
  match act with
  | .next => resolve steps (resolveFuel steps) (i + 1) stack cycles
  | .goto t => resolve steps (resolveFuel steps) t (gotoPops steps t stack) cycles
  | .finish => ⟨.finish, stack, cycles⟩

/-- The pulse pairs after a RUNNING period in a PULSE step, and the pulse target: the load at frame position 0 (R138), then
amplitude, base or staged base (R139). -/
def pulsePeriod (pos : Nat) (live : LivePair) (staged : StagedPair) : LivePair × StagedPair × Int :=
  let l : LivePair :=
    if pos = 0 ∧ staged.valid = true then ⟨true, staged.amplitude, staged.base, staged.onTime, staged.onTime⟩
    else if pos = 0 ∧ live.active = true then { live with remaining := live.onTime }
    else live
  let st : StagedPair := if pos = 0 ∧ staged.valid = true then ⟨false, 0, 0, 0⟩ else staged
  if l.active = true then
    if 0 < l.remaining then ({ l with remaining := l.remaining - 1 }, st, l.amplitude) else (l, st, l.base)
  else (l, st, if st.valid = true then st.base else 0)

/-- The pulse pairs and the base target of a channel that has entered a step of a kind in RUNNING (R137, R139, R140): a PULSE
step is staged beside the live pair of before, any other step clears both pairs. -/
def EntersPulse (s : State) (k : Fin 4) (kind : StepKind) (d : Channel) : Prop :=
  (∀ a b n, kind = .pulse a b n →
    (d.live, d.staged, d.regulator.base) = pulsePeriod s.framePos (s.channels.get k).live ⟨true, a, b, n⟩) ∧
  ((∀ a b n, kind ≠ .pulse a b n) → d.live = LivePair.clear ∧ d.staged = StagedPair.clear)

/-- The STEP_END entry of step `i` with the given counters and cycle count (R128). -/
def stepEndEntry (s : State) (k : Fin 4) (i : Nat) (r : StepEndReason) (c : Counters) (cycles : Nat) : Entry :=
  .stepEnd k (s.tick + 1) i r c.time (min (c.charge / 360000) 4294967295) (min (c.energy / 36000000000) 4294967295)
    c.starved cycles

/-- The SAMPLE entry of step `i` where the capture accumulator passes 1023 in the period, else none (R155). -/
def sampleEntries (s : State) (inp : PeriodInput) (k : Fin 4) (i : Nat) : List Entry :=
  let p := (s.channels.get k).pacer
  if (p.mode = .interval ∧ 1023 < p.acc + 1) ∨ (p.mode = .fraction ∧ 1023 < p.acc + p.d) then
    [.sample k (s.tick + 1) i (bandAfter s inp k).val (inp.channels.get k).v (inp.channels.get k).i (inp.channels.get k).t]
  else []

/-- The CHANNEL_END entry of the period with an end reason (R90). -/
def channelEndEntry (s : State) (inp : PeriodInput) (k : Fin 4) (r : EndReason) : Entry :=
  .channelEnd k (s.tick + 1) r (s.channels.get k).sequencer.cycles
    (min (((s.channels.get k).chargeIn + (inp.channels.get k).i.toInt.toNat) / 360000) 4294967295)
    (min (((s.channels.get k).chargeOut + (-(inp.channels.get k).i.toInt).toNat) / 360000) 4294967295)

/-- The CHANNEL_START entry of the period in which CLOSING ends (R90). -/
def channelStartEntry (s : State) (k : Fin 4) : Entry :=
  .channelStart k (s.tick + 1) (s.channels.get k).startProgram (s.channels.get k).startMode
    ((s.channels.get k).closeTimer + 1)

/-- The FAULT entry of the period with a primary cause alone, its step index given (R94). -/
def faultEntry (s : State) (inp : PeriodInput) (k : Fin 4) (c : Cause) (step : Option Nat) : Entry :=
  .fault k (s.tick + 1) c none step (inp.channels.get k).v (inp.channels.get k).i (inp.channels.get k).t

/-- The fault record after causes detected in one period, in their order, and the FAULT entries they make (R93, R94). -/
def faultsRecorded (s : State) (inp : PeriodInput) (k : Fin 4) (causes : List Cause) : Option FaultRecord × List Entry :=
  let step := (s.channels.get k).sequencer.index
  match (s.channels.get k).record, causes with
  | none, [] => (none, [])
  | none, [c] => (some (recordOf s inp k c none step), [faultEntry s inp k c step])
  | none, c :: c2 :: _ =>
    (some (recordOf s inp k c (some c2) step), [faultEntry s inp k c step,
      .fault k (s.tick + 1) c (some c2) step (inp.channels.get k).v (inp.channels.get k).i (inp.channels.get k).t])
  | some r, cs =>
    match r.secondary, cs.find? fun c => decide (c ≠ r.primary) with
    | none, some c2 =>
      (some { r with secondary := some c2 }, [.fault k (s.tick + 1) r.primary (some c2) r.step r.v r.i r.t])
    | _, _ => (some r, [])

/-! ### Demand (R110) -/

/-- A current bounded by the band (R102). -/
def bandBound (l : Limits) (i : Int) : Int := if 0 < i then min i l.chgMax else max i (-(l.disMax : Int))

/-- A demand of a power in units of 1/10000 W, with the class of its step: quanta with the sign of the power, and class 0 for
a demand of 0 (R111). -/
def demandFor (q : Nat) (power : Int) (cls : Nat) : Demand :=
  if quantaOf q power = 0 then ⟨0, 0⟩ else ⟨quantaOf q power, cls⟩

/-- The demand that a step asks for at a measured voltage under the limits of a band (R110, R111). -/
def stepDemand (q : Nat) (l : Limits) (v : Word) (cv : Nat) (st : Step) : Demand :=
  let current := fun i : Int => demandFor q (bandBound l i * (max v.toNat 1 : Nat)) st.cls
  match st.kind with
  | .chargeCC i => current i
  | .dischargeCC i => current (-(i : Int))
  | .chargeCV _ _ => current cv
  | .dischargeCP p => demandFor q (-((min (p * 10000) (l.disMax * v.toNat) : Nat) : Int)) st.cls
  | .rest => ⟨0, 0⟩
  | .pulse a b _ => current (if b.natAbs ≤ a.natAbs then a else b)
  | .loop _ _ _ => ⟨0, 0⟩
  | .finish => ⟨0, 0⟩

/-- The demand that step 0 of a program asks for, as though the channel were RUNNING in it; a CHARGE_CV step counts its CV
target as its current limit (R110). -/
def startDemand (q : Nat) (l : Limits) (v : Word) (steps : List Step) : Demand :=
  match steps with
  | [] => ⟨0, 0⟩
  | st :: _ => stepDemand q l v (match st.kind with | .chargeCV _ i => i | _ => 0) st

/-! ### The profile image (section 11.3) -/

/-- The byte at an offset of an image. -/
def byteAt (img : List Byte) (o : Nat) : Nat := ((img[o]?).getD 0).toNat
/-- Two bytes, the more significant first. -/
def wordAt (img : List Byte) (o : Nat) : Nat := 256 * byteAt img o + byteAt img (o + 1)
/-- Four bytes, the more significant first. -/
def longAt (img : List Byte) (o : Nat) : Nat := 65536 * wordAt img o + wordAt img (o + 2)
/-- Two bytes in two's complement. -/
def signedAt (img : List Byte) (o : Nat) : Int :=
  if wordAt img o < 32768 then wordAt img o else (wordAt img o : Int) - 65536
/-- Four bytes in two's complement. -/
def signedLongAt (img : List Byte) (o : Nat) : Int :=
  if longAt img o < 2147483648 then longAt img o else (longAt img o : Int) - 4294967296

/-- The ten bytes of channel `k` in the station block are in range. -/
abbrev ChannelBytesPass (img : List Byte) (k : Fin 4) : Prop :=
  byteAt img (10 + 10 * k.val) ≤ 1 ∧ byteAt img (11 + 10 * k.val) ≤ 2 ∧
  (1 ≤ wordAt img (12 + 10 * k.val) ∧ wordAt img (12 + 10 * k.val) ≤ 30000) ∧
  (1 ≤ wordAt img (14 + 10 * k.val) ∧ wordAt img (14 + 10 * k.val) ≤ 30000) ∧
  wordAt img (16 + 10 * k.val) ≤ 30000 ∧
  (5 ≤ byteAt img (18 + 10 * k.val) ∧ byteAt img (18 + 10 * k.val) ≤ 250) ∧
  (5 ≤ byteAt img (19 + 10 * k.val) ∧ byteAt img (19 + 10 * k.val) ≤ 250)

/-- The five checks of R167 on an image: header, CRC, station block, hall block, band block. -/
abbrev ProfilePasses (img : List Byte) : Prop :=
  (wordAt img 0 = 0x0A31 ∧ 253 ≤ wordAt img 2 ∧ wordAt img 2 ≤ 8192) ∧
  (crc16 ((img.take (wordAt img 2)).drop 6)).toNat = wordAt img 4 ∧
  ((1 ≤ byteAt img 6 ∧ byteAt img 6 ≤ 48) ∧ byteAt img 7 ≤ 200 ∧ (2 ≤ wordAt img 8 ∧ wordAt img 8 ≤ 2000) ∧
    ∀ k : Fin 4, ChannelBytesPass img k) ∧
  ((8 ≤ byteAt img 50 ∧ byteAt img 50 ≤ 40) ∧ (10 ≤ wordAt img 51 ∧ wordAt img 51 ≤ 2000) ∧
    wordAt img 57 ≤ 4000 ∧ byteAt img 59 ≤ 50 ∧ (5 ≤ byteAt img 60 ∧ byteAt img 60 ≤ 100) ∧
    wordAt img 57 ≤ wordAt img 53 ∧ wordAt img 57 ≤ wordAt img 55) ∧
  (-400 ≤ signedAt img 61 ∧ signedAt img 65 ≤ 1500 ∧ signedAt img 61 < signedAt img 63 ∧
    signedAt img 63 < signedAt img 65 ∧ 0 ≤ signedAt img 67 ∧ signedAt img 67 ≤ 1900 ∧
    ∀ b k : Fin 4, wordAt img (69 + 40 * b.val + 10 * k.val) ≤ 30000 ∧ wordAt img (71 + 40 * b.val + 10 * k.val) ≤ 30000)

/-- The settings are those that the blocks of the image hold (section 11.3). -/
abbrev SettingsRead (img : List Byte) (st : Settings) : Prop :=
  st.station = byteAt img 6 ∧ st.aIsl = byteAt img 7 ∧ st.pFrame = wordAt img 8 ∧
  (∀ k : Fin 4, st.channels.get k = ⟨decide (byteAt img (10 + 10 * k.val) = 1),
    if byteAt img (11 + 10 * k.val) = 1 then .freeze else if byteAt img (11 + 10 * k.val) = 2 then .restart else .pass,
    wordAt img (12 + 10 * k.val), wordAt img (14 + 10 * k.val), wordAt img (16 + 10 * k.val),
    byteAt img (18 + 10 * k.val), byteAt img (19 + 10 * k.val)⟩) ∧
  st.pRound = byteAt img 50 ∧ st.q = wordAt img 51 ∧ st.lImp = wordAt img 53 ∧ st.lExp = wordAt img 55 ∧
  st.guard = wordAt img 57 ∧ st.floor = byteAt img 59 ∧ st.window = byteAt img 60 ∧
  st.t1 = signedAt img 61 ∧ st.t2 = signedAt img 63 ∧ st.t3 = signedAt img 65 ∧ st.hyst = signedAt img 67 ∧
  ∀ b k : Fin 4, limitsOf st b k = ⟨wordAt img (69 + 40 * b.val + 10 * k.val), wordAt img (71 + 40 * b.val + 10 * k.val),
    wordAt img (73 + 40 * b.val + 10 * k.val), wordAt img (75 + 40 * b.val + 10 * k.val),
    signedAt img (77 + 40 * b.val + 10 * k.val)⟩

/-- The code of a term's quantity. -/
def quantityCode : Quantity → Nat
  | .voltage => 1 | .temperature => 2 | .currentMag => 3 | .stepTime => 4
  | .stepCharge => 5 | .stepEnergy => 6 | .starvedRounds => 7 | .pulseCount => 8

/-- The largest threshold of a quantity (R113). -/
def thresholdTop : Quantity → Int
  | .voltage => 65535 | .temperature => 1500 | .currentMag => 30000 | .stepTime => 4294967295
  | .stepCharge => 4294967295 | .stepEnergy => 4294967295 | .starvedRounds => 65535 | .pulseCount => 65535

/-- The eight bytes at an offset hold a term that passes the checks of R115 for a program of `len` steps. -/
def TermRead (img : List Byte) (len o : Nat) (t : Term) : Prop :=
  byteAt img o = quantityCode t.quantity ∧ byteAt img (o + 1) = (if t.ge = true then 1 else 2) ∧
  (t.quantity = .currentMag → t.ge = false) ∧ (¬ Lasting t.quantity → t.ge = true) ∧
  t.threshold = (if t.quantity = .temperature then signedLongAt img (o + 4) else (longAt img (o + 4) : Int)) ∧
  (if t.quantity = .temperature then (-400 : Int) else 0) ≤ t.threshold ∧ t.threshold ≤ thresholdTop t.quantity ∧
  match t.action with
  | .next => byteAt img (o + 2) = 1
  | .goto x => byteAt img (o + 2) = 2 ∧ byteAt img (o + 3) = x ∧ x < len
  | .finish => byteAt img (o + 2) = 3

/-- The record at an offset holds a step of a kind whose setpoint fields pass the checks of R115. -/
def KindRead (img : List Byte) (pFrame o : Nat) (kind : StepKind) : Prop :=
  match kind with
  | .chargeCC i => byteAt img o = 1 ∧ i = wordAt img (o + 5) ∧ i ≤ 30000
  | .chargeCV v i => byteAt img o = 2 ∧ v = wordAt img (o + 5) ∧ i = wordAt img (o + 7) ∧ i ≤ 30000
  | .dischargeCC i => byteAt img o = 3 ∧ i = wordAt img (o + 5) ∧ i ≤ 30000
  | .dischargeCP p => byteAt img o = 4 ∧ p = longAt img (o + 5) ∧ p ≤ 200000
  | .rest => byteAt img o = 5
  | .pulse a b n => byteAt img o = 6 ∧ a = signedAt img (o + 5) ∧ b = signedAt img (o + 7) ∧ n = wordAt img (o + 9) ∧
      a.natAbs ≤ 30000 ∧ b.natAbs ≤ 30000 ∧ 1 ≤ n ∧ n + 1 ≤ pFrame ∧ ¬ (0 < a ∧ b < 0) ∧ ¬ (a < 0 ∧ 0 < b)
  | .loop t m n => byteAt img o = 7 ∧ t = byteAt img (o + 5) ∧ m = decide (byteAt img (o + 6) ≠ 0) ∧ n = wordAt img (o + 7)
  | .finish => byteAt img o = 8

/-- The 38 bytes at an offset hold a step that passes the checks of R115 for a program of `len` steps. -/
def StepRead (img : List Byte) (pFrame len o : Nat) (st : Step) : Prop :=
  KindRead img pFrame o st.kind ∧
  (st.kind.working = true → st.cls = byteAt img (o + 1) ∧ st.cls ≤ 2 ∧
    byteAt img (o + 2) = (match st.capture with | .off => 0 | .interval => 1 | .fraction => 2) ∧
    st.d = wordAt img (o + 3) ∧ st.d ≤ 1023 ∧ st.terms.length = byteAt img (o + 13) ∧ st.terms.length ≤ 3 ∧
    ∀ (j : Nat) (t : Term), st.terms[j]? = some t → TermRead img len (o + 14 + 8 * j) t) ∧
  (st.kind.working = false → byteAt img (o + 13) = 0 ∧ st.cls = 0 ∧ st.capture = .off ∧ st.d = 0 ∧ st.terms = [])

/-- Step `l` is a LOOP step with target `t`. -/
def LoopAt (steps : List Step) (l t : Nat) : Prop := ∃ st m n, steps[l]? = some st ∧ st.kind = .loop t m n

/-- The loop checks of R116: each target lies below its LOOP step and is none itself, two ranges are disjoint or nested, and no
index lies in three ranges. -/
def LoopsNest (steps : List Step) : Prop :=
  (∀ l t, LoopAt steps l t → t < l ∧ ∀ t', ¬ LoopAt steps t t') ∧
  (∀ l t l' t', LoopAt steps l t → LoopAt steps l' t' → l < l' → l < t' ∨ t' ≤ t) ∧
  ∀ i l t l' t' l'' t'', LoopAt steps l t → LoopAt steps l' t' → LoopAt steps l'' t'' → l < l' → l' < l'' →
    ¬ ((t ≤ i ∧ i ≤ l) ∧ (t' ≤ i ∧ i ≤ l') ∧ (t'' ≤ i ∧ i ≤ l''))

/-! ### Rounds and marks -/

/-- An event with a round start (R2): the own rollover in READY, or a mark that the lock unit follows with one (R9). -/
def TakesRoundStart (cause : RoundCause) (s : State) : Prop :=
  Ready s ∧
  match cause with
  | .rollover => True
  | .mark f arr => ∃ out, judgeMark (advanceTo s arr.now) f arr = .followed out true

/-- An event with a round start that keeps a LOCKED station LOCKED: the own rollover, or an in-window mark of the own hall
whose check completes before it. -/
abbrev KeepsLock (cause : RoundCause) (s : State) : Prop :=
  Ready s ∧ s.lock.state = .locked ∧
  match cause with
  | .rollover => True
  | .mark f arr =>
    s.lock.pacer = false ∧ f.digest = s.loader.digest ∧ markPlace (advanceTo s arr.now) arr = .beforeRollover

/-- The command that is a round start by a cause: the own rollover, or a received mark (R1, R8). -/
abbrev roundEvent : RoundCause → Instr
  | .rollover => .roundStart
  | .mark f arr => .markReceived f arr

/-- Whether a round starved a channel: it asked for power and its grant has not the sign of the demand (R112). -/
abbrev StarvedBy (d g : Int) : Prop := d ≠ 0 ∧ ¬ (0 < d ∧ 0 < g) ∧ ¬ (d < 0 ∧ g < 0)

/-- A link event that starts no round leaves the heard table, the walk unit, the channels and the membership state. -/
abbrev QuietFrame (s t : State) : Prop :=
  LinkFrame s t ∧ t.heard = s.heard ∧ t.walk = s.walk ∧ t.member = s.member ∧ t.channels = s.channels ∧
  t.capture = s.capture

/-- A mark window can pass: it is evaluated and neither passed nor met (R8). -/
abbrev WindowOpen (s : State) : Prop :=
  Ready s ∧ s.timer.settled = false ∧ (s.lock.state = .acquire ∨ (s.lock.state = .locked ∧ s.lock.pacer = false))

/-- The station sends a mark that has not been read back yet. -/
abbrev MarkSent (s : State) (f : MarkFrame) (cut : Bool) : Prop :=
  s.lock.state = .locked ∧ s.lock.pacer = true ∧ s.link.line = some (.mark f cut)

/-- A frame that was sent as `sent` reads back with a failure (R6). -/
abbrev ReadsBadly (sent readBack : List Byte) (cut : Bool) : Prop := cut = true ∨ readBack ≠ sent

/-- A channel after the exclusion notice, by the table of R67. -/
def noticed (c : Channel) : Channel :=
  if c.state = .idle ∨ c.state = .ended then { c with runRequest := false }
  else if (c.state = .closing ∨ c.state = .running ∨ c.state = .held) ∧ c.stopRequest = .none then
    { c with stopRequest := .secure .excluded }
  else c

/-- A station in the division that loses its place has zero grants, no pending results and fresh counts (R50, R62). -/
abbrev Islanded (s t : State) : Prop :=
  (s.member.state = .joining ∨ s.member.state = .joined) →
    t.member = { s.member with state := .islanded, omissions := 0, dwell := 0, confirmed := false } ∧
    t.walk.grants = Quad.same 0 ∧ t.walk.pendingHall = none ∧ t.walk.pendingLocal = none

/-- The MEMBER_ISLANDED entries of a loss of lock that starts no round, with the lock state entered (R61, R71). -/
def lockLostEntries (s : State) (entered : LockState) : List Entry :=
  if s.member.state = .joining ∨ s.member.state = .joined then
    [.station s.tick (.islandedLockLost s.member.state entered) s.timer.round]
  else []

/-- A loss of lock with a round start islands a JOINING or JOINED station with its MEMBER_ISLANDED entry, which names the loss
and ACQUIRE where that round start does not report the second omission round as well (R60, R61, R71). -/
abbrev LockLostEntry (s t : State) : Prop :=
  (s.member.state = .joining ∨ s.member.state = .joined) → ¬ (s.heard.omission = true ∧ 1 ≤ s.member.omissions) →
  s.capture.station.entries.length ≤ 1 →
  .station s.tick (.islandedLockLost s.member.state .acquire) t.timer.round ∈ t.capture.station.entries

/-- The tests of R26 to R28 on a SHARE frame, made when its check completes. -/
abbrev SharePasses (s : State) (f : ShareFrame) (arr : Arrival) : Prop :=
  (1 ≤ f.station.toNat ∧ f.station.toNat ≤ 48) ∧ frameSlot (advanceTo s arr.now) arr = f.station.toNat ∧
  f.station.toNat ≠ s.loader.settings.station ∧ f.digest = s.loader.digest ∧ f.round = s.timer.round ∧
  (f.member = 1 ∨ f.member = 2) ∧
  (∀ k, (f.blocks.get k).demand.toInt.natAbs ≤ 200 ∧ (f.blocks.get k).cls.toNat ≤ 2 ∧
    (f.blocks.get k).state.toNat ≤ 8) ∧
  (heardEntry s.heard f.station.toNat).heard = false

/-- The tests of R144 on a CONSOLE frame, made when its check completes. -/
abbrev ConsolePasses (c : Command) (s : State) (f : ConsoleFrame) (arr : Arrival) : Prop :=
  (1 ≤ f.console.toNat ∧ f.console.toNat ≤ 8) ∧
  frameSlot (advanceTo s arr.now) arr = 48 + f.console.toNat ∧
  (f.station = 0 ∨ f.station.toNat = s.loader.settings.station) ∧
  (c = .setHoldMode → f.arg.toNat ≤ 2)

/-- A grant with its magnitude bounded by `f` (R53). -/
def clipped (f : Nat) (g : Int) : Int := if (f : Int) < g then f else if g < -(f : Int) then -(f : Int) else g

/-- The round start island the station: it was JOINING or JOINED and is ISLANDED. -/
abbrev IslandsNow (s t : State) : Prop :=
  (s.member.state = .joining ∨ s.member.state = .joined) ∧ t.member.state = .islanded

/-- A LOCKED station becomes EXCLUDED in the event, and with it loses its lock (R21, R56). -/
abbrev ExcludedFromLock (s t : State) : Prop :=
  s.lock.state = .locked ∧ s.member.state ≠ .excluded ∧ t.member.state = .excluded

/-- A mark whose digest is the station's own, or any mark at an EXCLUDED station (R8, R22). -/
abbrev ValidMark (s : State) (f : MarkFrame) : Prop := f.digest = s.loader.digest ∨ s.member.state = .excluded

/-- The place of a mark, judged when its check completes (R8, R9). -/
abbrev placeOf (s : State) (arr : Arrival) : MarkPlace := markPlace (advanceTo s arr.now) arr

/-- The timer after a re-phase: the time since the mark's first byte, and the mark's round number (R9). -/
abbrev Rephased (s t : State) (f : MarkFrame) (arr : Arrival) : Prop :=
  t.timer.phase = min arr.elapsed (roundTicks s.loader.settings - 1) ∧ t.timer.round = f.round

/-! ### Console -/

/-- The frame is taken. -/
abbrev Taken (c : Command) (s : State) (f : ConsoleFrame) (arr : Arrival) : Prop := Ready s ∧ ConsolePasses c s f arr

/-- The channels a target channel reaches, in their order (R145). -/
def targets (s : State) (f : ConsoleFrame) : List (Fin 4) :=
  ([0, 1, 2, 3] : List (Fin 4)).filter fun k =>
    (s.loader.settings.channels.get k).enable && (decide (f.channel = 4) || decide (f.channel.toNat = k.val))

/-- The refusal of the first that refused, else ACCEPTED (R145). -/
def firstRefusal (rs : List Result) : Result := (rs.find? fun r => decide (r ≠ .accepted)).getD .accepted

/-- The last command record of a taken frame (R146). -/
def recordFor (c : Command) (f : ConsoleFrame) (r : Result) : CommandRecord :=
  ⟨f.console.truncate 4, c, if f.channel.toNat ≤ 4 then f.channel.truncate 3 else 7, r⟩

/-- What a taken command to channels does: each reached channel is changed as its rule says, the others are left, and the
record holds the first refusal, or REFUSED_TARGET where no channel is reached (R145, R146). -/
def ChannelsAnswer (c : Command) (s t : State) (f : ConsoleFrame) (rule : Channel → Channel × Result) : Prop :=
  ConsoleKeeps s t ∧ t.capture = s.capture ∧ t.console.hold = s.console.hold ∧
  (∀ k, t.channels.get k = if k ∈ targets s f then (rule (s.channels.get k)).1 else s.channels.get k) ∧
  t.console.last = recordFor c f
    (if targets s f = [] then .refusedTarget else firstRefusal ((targets s f).map fun k => (rule (s.channels.get k)).2))

/-- START (R147): the four tests in order. -/
def startRule (s : State) (arg : Nat) (ch : Channel) : Channel × Result :=
  if s.member.state ≠ .joined then (ch, .refusedMembership)
  else if s.stopLine.level = true then (ch, .refusedEstop)
  else if ¬ ((ch.state = .idle ∨ ch.state = .ended) ∧ ch.runRequest = false) then (ch, .refusedState)
  else if ¬ (arg ≤ 7 ∧ programValid s.loader.programs arg = true) then (ch, .refusedProgram)
  else ({ ch with runRequest := true, runProgram := arg }, .accepted)

/-- ABORT (R148, R77). -/
def abortRule (ch : Channel) : Channel × Result :=
  if (ch.state = .idle ∨ ch.state = .ended) ∧ ch.runRequest = true then ({ ch with runRequest := false }, .accepted)
  else if ch.state = .closing ∨ ch.state = .running ∨ ch.state = .held then
    (if ch.stopRequest = .none then { ch with stopRequest := .secure .aborted } else ch, .accepted)
  else (ch, .refusedState)

/-- FORCE_STOP (R148, R77). -/
def forceStopRule (ch : Channel) : Channel × Result :=
  if (ch.state = .idle ∨ ch.state = .ended) ∧ ch.runRequest = true then ({ ch with runRequest := false }, .accepted)
  else if ch.state = .closing ∨ ch.state = .running ∨ ch.state = .held ∨ ch.state = .stopping then
    ({ ch with stopRequest := .fast }, .accepted)
  else (ch, .refusedState)

/-- CLEAR_FAULT (R95). -/
def clearFaultRule (ch : Channel) : Channel × Result :=
  if ch.state = .faulted ∧ ch.feedback.level = false then
    ({ ch with state := .idle, record := none, endReason := .none, persistence := ⟨0, 0, 0, 0⟩ }, .accepted)
  else (ch, .refusedState)

/-- SET_HOLD_MODE (R149). -/
def setHoldModeRule (m : HoldMode) (ch : Channel) : Channel × Result :=
  if ch.state = .held then (ch, .refusedState) else ({ ch with holdMode := m }, .accepted)

/-- NEXT_STEP (R127, R149). -/
def nextStepRule (ch : Channel) : Channel × Result :=
  if ch.state = .running then ({ ch with sequencer := { ch.sequencer with nextRequest := true } }, .accepted)
  else (ch, .refusedState)

/-! ### The result buffer and the logger port -/

/-- The port takes a new command: no answer is being sent, no FLUSH waits, no word of a command is held. -/
abbrev PortIdle (s : State) : Prop := s.port.answering = false ∧ s.port.deferred = false ∧ s.port.partialWords = []

/-- The port with an answer that is complete. -/
abbrev answered (ws : List Word) : Port := ⟨[], true, ws, none, false⟩

/-- The first address of half `h`. -/
abbrev baseOf (h : Nat) : Nat := h * 4096

/-- Two RAMs differ only in the words from `a` on, which are `ws` after. -/
def Stored (a : Nat) (ws : List Word) (before after : List RamCell) : Prop :=
  ∀ b, ramRead b after = if a ≤ b ∧ b < a + ws.length then (ws[b - a]?).getD 0 else ramRead b before

/-- Half `h` was OPEN and has been closed (R158): its words from the write position on are FILL words, the half is FULL, READY
is asserted; the other half is OPEN if it was FREE, else lockout holds; the write position is 0. -/
def Closed (h : Nat) (b c : Buffer) : Prop :=
  (∀ a, ramRead a c.ram = if baseOf h + b.writePos ≤ a ∧ a < baseOf h + 4096 then 0 else ramRead a b.ram) ∧
  halfState c h = .full ∧ c.writePos = 0 ∧ c.ready = true ∧
  (halfState b (1 - h) = .free → halfState c (1 - h) = .opened ∧ c.lockout = b.lockout) ∧
  (halfState b (1 - h) ≠ .free → halfState c (1 - h) = halfState b (1 - h) ∧ c.lockout = true)

/-- The outcome of a FLUSH that is taken (R165). -/
def FlushAnswer (s t : State) : Prop :=
  PortFrame s t ∧ t.capture = s.capture ∧
  (s.buffer.lockout = true → t.buffer = s.buffer ∧ t.port = answered [1]) ∧
  (∀ h, openHalf s.buffer = some h → s.buffer.writePos = 0 → t.buffer = s.buffer ∧ t.port = answered [2]) ∧
  (∀ h, openHalf s.buffer = some h → 0 < s.buffer.writePos → Closed h s.buffer t.buffer ∧ t.port = answered [0])

end Sys2Proof.Machine

open Sys2Proof Sys2Proof.Machine

/-- A step runs the command at the front of the queue with the queue's rest, and idles on an empty queue (the model's
choice, log 3). -/
def Obligations.StepRunsFrontCommand : Prop :=
  (∀ (c : Instr) (rest : List Instr) (s : State), step (s.setPending (c :: rest)) = exec c (s.setPending rest)) ∧
  ∀ s : State, s.pending = [] → step s = .next s

/-- RESET returns every block to its reset values, the last command record all zero among them. That the empty local inputs are
four demands of 0 with class 0 is the model's choice (log 44). -/
def Obligations.ResetReturnsEveryBlock : Prop :=
  ∀ s : State, ∃ t, exec .reset s = .next t ∧ t.pending = s.pending ∧ t.draws = s.draws ∧
    t.loader.startup = .loading ∧ t.loader.image = [] ∧ (∀ p ∈ t.loader.programs, p.valid = false) ∧ t.tick = 0 ∧
    t.timer.phase = 0 ∧ t.timer.round = 0 ∧ t.link.line = none ∧ t.lock = ⟨.search, 0, 0, 0, false, 0, 0⟩ ∧
    t.heard.entries = List.replicate 48 ⟨.absent, 0, false, Quad.same ⟨0, 0⟩⟩ ∧ t.heard.map = 0 ∧ t.heard.tag = none ∧
    t.heard.disagreement = false ∧ t.heard.omission = false ∧
    t.walk.walking = false ∧ t.walk.hallInputs = [] ∧ t.walk.localInputs = Quad.same ⟨0, 0⟩ ∧ t.walk.runsHall = false ∧
    t.walk.pendingHall = none ∧ t.walk.pendingLocal = none ∧ t.walk.caution = false ∧ t.walk.clean = 0 ∧
    t.walk.cautionRounds = 0 ∧ t.walk.grants = Quad.same 0 ∧
    t.member = ⟨.outside, false, 0, 0, 0, 0⟩ ∧
    (∀ k, let ch := t.channels.get k
      ch.state = .idle ∧ ch.runRequest = false ∧ ch.runProgram = 0 ∧ ch.stopRequest = .none ∧ ch.endReason = .none ∧
      ch.drive = false ∧ ch.enabled = false ∧ ch.setpoint = 0 ∧ ch.feedback = ⟨false, 0⟩ ∧ ch.fault = ⟨false, 0⟩ ∧
      ch.closeTimer = 0 ∧ ch.openTimer = 0 ∧ ch.lastClose = 0 ∧ ch.band = none ∧ ch.persistence = ⟨0, 0, 0, 0⟩ ∧
      ch.record = none ∧ ch.chargeIn = 0 ∧ ch.chargeOut = 0 ∧ ch.regulator = ⟨0, 0, 0, false⟩ ∧
      ch.sequencer = ⟨none, none, false, [], ⟨0, 0, 0, 0, 0, [0, 0, 0]⟩, false, 0⟩ ∧
      ch.live = ⟨false, 0, 0, 0, 0⟩ ∧ ch.staged = ⟨false, 0, 0, 0⟩ ∧ ch.pacer = ⟨.off, 0, 0⟩ ∧ ch.holdMode = .pass) ∧
    t.framePos = 0 ∧ t.stopLine = ⟨false, 0⟩ ∧ t.console.hold = false ∧
    t.console.last = ⟨0, .none, 0, .accepted⟩ ∧ recordWord t.console.last = 0 ∧
    (∀ k, t.capture.channels.get k = ⟨[], 0⟩) ∧ t.capture.station = ⟨[], 0⟩ ∧
    t.buffer.half0 = .opened ∧ t.buffer.half1 = .free ∧ t.buffer.writePos = 0 ∧ t.buffer.lockout = false ∧
    t.buffer.ready = false ∧ t.port = ⟨[], false, [], none, false⟩

/-- PROFILE_HEADER_READ and PROFILE_READ_COMPLETE keep and check the image and lead to READY or to PROFILE_FAULT. That the
image comes as operands is the model's choice (log 27), and the bit order of the CRC-16, in the check and in the hall digest,
is presumed (log 1). What the checks, the settings and the programs are is stated by ProfileChecksAndSettings and
ProgramsAreValidated. -/
def Obligations.ProfileIsReadAndChecked : Prop :=
  (∀ (header : List Byte) (s : State), s.loader.startup = .loading → s.loader.image = [] → header.length = 6 →
    exec (.profileHeaderRead header) s = .next (s.setLoader { s.loader with
      startup := if 253 ≤ profileLength header ∧ profileLength header ≤ 8192 then .loading else .profileFault
      image := header })) ∧
  ∀ (rest : List Byte) (s : State), s.loader.startup = .loading → s.loader.image.length = 6 →
    (s.loader.image ++ rest).length = profileLength (s.loader.image ++ rest) →
    (profileOk (s.loader.image ++ rest) = true →
      ∃ t, exec (.profileReadComplete rest) s = .next t ∧ t.loader.startup = .ready ∧
        t.loader.image = s.loader.image ++ rest ∧
        t.loader.digest = crc16 (((s.loader.image ++ rest).drop 50).take 11) ∧
        t.loader.settings = settingsOf (s.loader.image ++ rest) ∧
        t.loader.programs = programsOf (s.loader.image ++ rest) ∧
        t.timer = { s.timer with phase := 0, round := 0 } ∧
        t.lock = ⟨.search, 4 + t.loader.settings.station, 0, 0, false, 0, s.lock.backoff⟩ ∧ t.framePos = 0 ∧
        (∀ k, t.channels.get k =
          { s.channels.get k with holdMode := (t.loader.settings.channels.get k).mode }) ∧
        t.pending = s.pending ∧ t.draws = s.draws ∧ t.tick = s.tick ∧ t.link = s.link ∧ t.heard = s.heard ∧
        t.walk = s.walk ∧ t.member = s.member ∧ t.stopLine = s.stopLine ∧ t.console = s.console ∧
        t.capture = s.capture ∧ t.buffer = s.buffer ∧ t.port = s.port) ∧
    (profileOk (s.loader.image ++ rest) = false →
      exec (.profileReadComplete rest) s = .next (s.setLoader { s.loader with
        startup := .profileFault, image := s.loader.image ++ rest }))

/-- The five checks of a profile image with their ranges, and the settings it gives. The bit order of the CRC-16 is presumed
(log 1). -/
def Obligations.ProfileChecksAndSettings : Prop :=
  ∀ img : List Byte, (profileOk img = true ↔ ProfilePasses img) ∧ SettingsRead img (settingsOf img)

/-- Each of the eight programs of an image is valid exactly where its steps pass the checks of R115 and R116, and then holds
the steps its records spell; an invalid one holds none. -/
def Obligations.ProgramsAreValidated : Prop :=
  (∀ (img : List Byte) (p : Nat), p < 8 →
    let n := byteAt img (231 + 3 * p)
    let o := 229 + wordAt img (229 + 3 * p)
    let Reads : List Step → Prop := fun steps =>
      (1 ≤ n ∧ n ≤ 32 ∧ o + 38 * n ≤ wordAt img 2) ∧ steps.length = n ∧
      (∀ (i : Nat) (st : Step), steps[i]? = some st → StepRead img (wordAt img 8) n (o + 38 * i) st) ∧ LoopsNest steps
    ∃ pr, (programsOf img)[p]? = some pr ∧ (pr.valid = true → Reads pr.steps) ∧ (pr.valid = false → pr.steps = []) ∧
      ∀ steps, Reads steps → pr = ⟨true, steps⟩) ∧
  ∀ steps : List Step, loopsOk steps = true ↔ LoopsNest steps

/-- CONTROL_PERIOD advances the tick count in every start-up state, and in READY the frame counter and the stop line
monitor. That a period before READY changes nothing else is the model's reading (log 5). -/
def Obligations.ControlPeriodOfTheStation : Prop :=
  ∀ (inp : PeriodInput) (s : State), ∃ t, exec (.controlPeriod inp) s = .next t ∧ PeriodFrame s t ∧
    (Ready s →
      t.framePos = (if s.framePos + 1 < s.loader.settings.pFrame then s.framePos + 1 else 0) ∧
      t.stopLine = filterSample s.stopLine inp.stopLine ∧
      ∀ k, (s.loader.settings.channels.get k).enable = false →
        t.channels.get k = s.channels.get k ∧ t.capture.channels.get k = s.capture.channels.get k) ∧
    (¬ Ready s → t.framePos = s.framePos ∧ t.stopLine = s.stopLine ∧ t.channels = s.channels ∧ t.capture = s.capture)

/-- STOP_LEVEL_CHANGE and FILTER_LEVEL_CHANGE: the third consecutive differing sample gives the filtered level and clears
the run count; a control period counts a differing sample and clears the count at a returning one. A row that names an outcome stands for the whole event in which it comes about: the model's choice (log
4). -/
def Obligations.FilteredLevelsChange : Prop :=
  (∀ (inp : PeriodInput) (s : State), Ready s → s.stopLine.run = 2 → inp.stopLine ≠ s.stopLine.level →
    ∃ t, exec (.stopLevelChange inp) s = .next t ∧ PeriodFrame s t ∧ t.stopLine = ⟨inp.stopLine, 0⟩) ∧
  (∀ (inp : PeriodInput) (s : State) (k : Fin 4), Works s k →
    (((s.channels.get k).feedback.run = 2 ∧ (inp.channels.get k).feedback ≠ (s.channels.get k).feedback.level) →
      ∃ t, exec (.filterLevelChange inp) s = .next t ∧ PeriodFrame s t ∧
        (t.channels.get k).feedback = ⟨(inp.channels.get k).feedback, 0⟩) ∧
    (((s.channels.get k).fault.run = 2 ∧ (inp.channels.get k).fault ≠ (s.channels.get k).fault.level) →
      ∃ t, exec (.filterLevelChange inp) s = .next t ∧ PeriodFrame s t ∧
        (t.channels.get k).fault = ⟨(inp.channels.get k).fault, 0⟩)) ∧
  ∀ (inp : PeriodInput) (s : State), Ready s →
    ∃ t, exec (.controlPeriod inp) s = .next t ∧ FilteredBy s.stopLine inp.stopLine t.stopLine ∧
      ∀ k, Works s k →
        FilteredBy (s.channels.get k).feedback (inp.channels.get k).feedback (t.channels.get k).feedback ∧
        FilteredBy (s.channels.get k).fault (inp.channels.get k).fault (t.channels.get k).fault

/-- PERSISTENCE_DETECT: a timed cause is detected when its count reaches 3, or 20, and a run it meets makes a fast stop; every
control period raises, holds or clears each count. A row that names an outcome stands for the whole event in which it comes about: the model's choice (log 4). -/
def Obligations.TimedCauseIsDetected : Prop :=
  (∀ (inp : PeriodInput) (s : State) (k : Fin 4) (c : Cause), Works s k →
    ((c = .overvoltage ∧
        (s.channels.get k).state ∈ ([.closing, .running, .held, .stopping, .opening, .faulted] : List ChannelState) ∧
        (limitsAfter s inp k).vMax < (inp.channels.get k).v.toNat ∧ (s.channels.get k).persistence.overV = 2) ∨
      (c = .undervoltage ∧
        (s.channels.get k).state ∈ ([.closing, .running, .held, .stopping, .opening, .faulted] : List ChannelState) ∧
        closedAfter s inp k = true ∧ (inp.channels.get k).v.toNat < (limitsAfter s inp k).vMin ∧
        (s.channels.get k).persistence.underV = 2) ∨
      (c = .overtemp ∧
        (s.channels.get k).state ∈ ([.closing, .running, .held, .stopping, .opening, .faulted] : List ChannelState) ∧
        (limitsAfter s inp k).tMax < (inp.channels.get k).t.toInt ∧ (s.channels.get k).persistence.overT = 2) ∨
      (c = .currentDeviation ∧
        (s.channels.get k).state ∈ ([.running, .held, .stopping] : List ChannelState) ∧
        (s.channels.get k).enabled = true ∧
        (s.loader.settings.channels.get k).tolerance <
          ((inp.channels.get k).i.toInt - (s.channels.get k).setpoint).natAbs ∧
        (s.channels.get k).persistence.deviation = 19)) →
    ∃ t, exec (.persistenceDetect inp) s = .next t ∧ PeriodFrame s t ∧ (t.channels.get k).record.isSome = true ∧
      (c = .overvoltage → (t.channels.get k).persistence.overV = 3) ∧
      (c = .undervoltage → (t.channels.get k).persistence.underV = 3) ∧
      (c = .overtemp → (t.channels.get k).persistence.overT = 3) ∧
      ((s.channels.get k).state ∈ ([.closing, .running, .held, .stopping] : List ChannelState) →
        (t.channels.get k).state = .opening ∧ (t.channels.get k).endReason = .fault ∧
        (t.channels.get k).setpoint = 0 ∧ (t.channels.get k).drive = false ∧ (t.channels.get k).enabled = false)) ∧
  ∀ (inp : PeriodInput) (s : State) (k : Fin 4), Works s k →
    ∃ t, exec (.controlPeriod inp) s = .next t ∧
      let c := s.channels.get k
      let d := t.channels.get k
      let l := limitsAfter s inp k
      PersistsAs c.persistence.overV 3 (LimitsArmed c.state) (l.vMax < (inp.channels.get k).v.toNat) (LimitsArmed d.state)
        d.persistence.overV ∧
      PersistsAs c.persistence.underV 3 (LimitsArmed c.state)
        (closedAfter s inp k = true ∧ (inp.channels.get k).v.toNat < l.vMin) (LimitsArmed d.state) d.persistence.underV ∧
      PersistsAs c.persistence.overT 3 (LimitsArmed c.state) (l.tMax < (inp.channels.get k).t.toInt) (LimitsArmed d.state)
        d.persistence.overT ∧
      PersistsAs c.persistence.deviation 20 (DeviationArmed c.state)
        (c.enabled = true ∧ (s.loader.settings.channels.get k).tolerance <
          ((inp.channels.get k).i.toInt - c.setpoint).natAbs) (DeviationArmed d.state) d.persistence.deviation

/-- CLOSE_LIMIT faults a contactor that does not close, OPEN_LIMIT one that does not open; below the close limit CLOSING waits,
and a cause detected in the period of the open limit is recorded before CONTACTOR_STUCK. A row that names an outcome
stands for the whole event in which it comes about: the model's choice (log 4). That the tick count advances before
the period's other work, so that its entries carry the new count, is the model's reading (log 6). The totals are capped at
4294967295 mAh (log 28). -/
def Obligations.ContactorLimitsFault : Prop :=
  (∀ (inp : PeriodInput) (s : State) (k : Fin 4), Works s k → (s.channels.get k).state = .closing →
    (s.channels.get k).stopRequest ≠ .fast → (s.channels.get k).record = none → causesOf s inp k = [] →
    closedAfter s inp k = false →
    (s.loader.settings.channels.get k).closeLimit ≤ (s.channels.get k).closeTimer + 1 →
    ∃ t, exec (.closeLimit inp) s = .next t ∧ PeriodFrame s t ∧ (t.channels.get k).state = .faulted ∧
      (t.channels.get k).endReason = .fault ∧ (t.channels.get k).drive = false ∧ (t.channels.get k).enabled = false ∧
      (t.channels.get k).setpoint = 0 ∧ (t.channels.get k).stopRequest = .none ∧
      (t.channels.get k).record =
        some (recordOf s inp k .contactorNoClose none (s.channels.get k).sequencer.index) ∧
      t.capture.channels.get k = offer (s.capture.channels.get k)
        (faultEntry s inp k .contactorNoClose (s.channels.get k).sequencer.index)) ∧
  (∀ (inp : PeriodInput) (s : State) (k : Fin 4), Works s k → (s.channels.get k).state = .closing →
    (s.channels.get k).stopRequest ≠ .fast → causesOf s inp k = [] → closedAfter s inp k = false →
    (s.channels.get k).closeTimer + 1 < (s.loader.settings.channels.get k).closeLimit →
    ∃ t, exec (.controlPeriod inp) s = .next t ∧ (t.channels.get k).state = .closing ∧
      (t.channels.get k).closeTimer = (s.channels.get k).closeTimer + 1 ∧
      (t.channels.get k).lastClose = (s.channels.get k).lastClose ∧
      (t.channels.get k).stopRequest = (s.channels.get k).stopRequest ∧
      (t.channels.get k).endReason = (s.channels.get k).endReason ∧
      (t.channels.get k).record = (s.channels.get k).record ∧
      (t.channels.get k).sequencer = (s.channels.get k).sequencer ∧ (t.channels.get k).drive = true ∧
      (t.channels.get k).enabled = false ∧ (t.channels.get k).setpoint = 0 ∧
      t.capture.channels.get k = s.capture.channels.get k) ∧
  ∀ (inp : PeriodInput) (s : State) (k : Fin 4), Works s k → (s.channels.get k).state = .opening →
    closedAfter s inp k = true →
    (s.loader.settings.channels.get k).openLimit ≤ (s.channels.get k).openTimer + 1 →
    ∃ t, exec (.openLimit inp) s = .next t ∧ PeriodFrame s t ∧ (t.channels.get k).state = .faulted ∧
      (t.channels.get k).endReason = .fault ∧ (t.channels.get k).drive = false ∧ (t.channels.get k).enabled = false ∧
      (t.channels.get k).setpoint = 0 ∧
      (t.channels.get k).record = (faultsRecorded s inp k (causesOf s inp k ++ [.contactorStuck])).1 ∧
      ((s.channels.get k).record = none → causesOf s inp k = [] → (t.channels.get k).record =
        some (recordOf s inp k .contactorStuck none (s.channels.get k).sequencer.index)) ∧
      (∀ r, (s.channels.get k).record = some r → r.secondary = none → r.primary ≠ .contactorStuck →
        causesOf s inp k = [] → (t.channels.get k).record = some { r with secondary := some .contactorStuck }) ∧
      (∀ r, (s.channels.get k).record = some r →
        (r.secondary ≠ none ∨ (r.primary = .contactorStuck ∧ causesOf s inp k = [])) → (t.channels.get k).record = some r) ∧
      t.capture.channels.get k = offerAll (s.capture.channels.get k)
        ((faultsRecorded s inp k (causesOf s inp k ++ [.contactorStuck])).2 ++ [channelEndEntry s inp k .fault])

/-- FRAME_BOUNDARY: the control period at position 0 counts a whole frame of a running pulse pattern. A row that names an
outcome stands for the whole event in which it comes about: the model's choice (log 4). -/
def Obligations.FrameBoundaryCountsFrames : Prop :=
  ∀ (inp : PeriodInput) (s : State), Ready s → s.framePos = 0 →
    ∃ t, exec (.frameBoundary inp) s = .next t ∧ PeriodFrame s t ∧
      t.framePos = (if 1 < s.loader.settings.pFrame then 1 else 0) ∧
      ∀ k, RunsOn s inp k → StepGoesOn s inp k →
        (t.channels.get k).sequencer.counters.pulses =
          if (s.channels.get k).live.active = true ∧ (s.channels.get k).staged.valid = false then
            satInc (s.channels.get k).sequencer.counters.pulses 65535
          else (s.channels.get k).sequencer.counters.pulses

/-- SAMPLE_CAPTURE: an accumulator that passes 1023 produces a SAMPLE entry and takes its new value. A row that names an
outcome stands for the whole event in which it comes about: the model's choice (log 4). That the tick count advances
before the period's other work, so that its entries carry the new count, is the model's reading (log 6). -/
def Obligations.SampleIsCaptured : Prop :=
  ∀ (inp : PeriodInput) (s : State) (k : Fin 4) (i : Nat), RunsOn s inp k → StepGoesOn s inp k →
    (s.channels.get k).sequencer.index = some i →
    (((s.channels.get k).pacer.mode = .interval ∧ (s.channels.get k).pacer.acc = 1023) ∨
      ((s.channels.get k).pacer.mode = .fraction ∧
        1023 < (s.channels.get k).pacer.acc + (s.channels.get k).pacer.d)) →
    ∃ t, exec (.sampleCapture inp) s = .next t ∧ PeriodFrame s t ∧
      (t.channels.get k).pacer = { (s.channels.get k).pacer with
        acc := if (s.channels.get k).pacer.mode = .interval then (s.channels.get k).pacer.d
          else (s.channels.get k).pacer.acc + (s.channels.get k).pacer.d - 1024 } ∧
      t.capture.channels.get k = offer (s.capture.channels.get k)
        (.sample k (s.tick + 1) i (bandAfter s inp k).val (inp.channels.get k).v (inp.channels.get k).i
          (inp.channels.get k).t)

/-- A period that works a step on adds 1 to the step time, |I| to the charge and |I| x V to the energy, and updates the
persistence count of each VOLTAGE, TEMPERATURE and CURRENT_MAG term; a period of a run adds I to its totals by its sign; every
period of a working channel keeps its V as the last measured voltage. -/
def Obligations.RunningStepCounts : Prop :=
  (∀ (inp : PeriodInput) (s : State) (k : Fin 4), RunsOn s inp k → StepGoesOn s inp k →
    ∃ t, exec (.controlPeriod inp) s = .next t ∧ (t.channels.get k).state = .running ∧
      (t.channels.get k).sequencer.index = (s.channels.get k).sequencer.index ∧
      (t.channels.get k).sequencer.program = (s.channels.get k).sequencer.program ∧
      (t.channels.get k).sequencer.stack = (s.channels.get k).sequencer.stack ∧
      (t.channels.get k).sequencer.cycles = (s.channels.get k).sequencer.cycles ∧
      (t.channels.get k).sequencer.counters.time = satInc (s.channels.get k).sequencer.counters.time 4294967295 ∧
      (t.channels.get k).sequencer.counters.charge =
        min ((s.channels.get k).sequencer.counters.charge + currentOf inp k) 18446744073709551615 ∧
      (t.channels.get k).sequencer.counters.energy =
        min ((s.channels.get k).sequencer.counters.energy + currentOf inp k * (inp.channels.get k).v.toNat)
          18446744073709551615 ∧
      (t.channels.get k).sequencer.counters.starved = (s.channels.get k).sequencer.counters.starved ∧
      ∀ (st : Step) (j : Nat) (x : Term), stepNow s k = some st → st.terms[j]? = some x →
        j < (s.channels.get k).sequencer.counters.terms.length →
        (Lasting x.quantity → (t.channels.get k).sequencer.counters.terms[j]? = some (termCountAfter s inp k j x)) ∧
        (¬ Lasting x.quantity → (t.channels.get k).sequencer.counters.terms[j]? =
          (s.channels.get k).sequencer.counters.terms[j]?)) ∧
  ∀ (inp : PeriodInput) (s : State) (k : Fin 4), Works s k →
    ∃ t, exec (.controlPeriod inp) s = .next t ∧ (t.channels.get k).vMeas = (inp.channels.get k).v ∧
      ((s.channels.get k).state ∈ ([.closing, .running, .held, .stopping, .opening] : List ChannelState) →
        (t.channels.get k).chargeIn = (s.channels.get k).chargeIn + (inp.channels.get k).i.toInt.toNat ∧
        (t.channels.get k).chargeOut = (s.channels.get k).chargeOut + (-(inp.channels.get k).i.toInt).toNat) ∧
      ((s.channels.get k).state ∈ ([.idle, .ended] : List ChannelState) → (s.channels.get k).runRequest = true →
        stopSeen s inp k = false → (t.channels.get k).chargeIn = 0 ∧ (t.channels.get k).chargeOut = 0) ∧
      ((s.channels.get k).state = .faulted ∨
        ((s.channels.get k).state ∈ ([.idle, .ended] : List ChannelState) ∧
          ((s.channels.get k).runRequest = false ∨ stopSeen s inp k = true)) →
        (t.channels.get k).chargeIn = (s.channels.get k).chargeIn ∧
        (t.channels.get k).chargeOut = (s.channels.get k).chargeOut)

/-- A step that the period works on, in RUNNING or at a FREEZE release, ends by its first satisfied term or by the operator's
next-step request: the working step that its destination resolves to is entered afresh, or the program finishes. That the tick count advances before the period's
other work, so that its entries carry the new count, is the model's reading (log 6); that the confirmation is held from the
period of entry to STOPPING is log 33. -/
def Obligations.StepEndsByTermOrOperator : Prop :=
  ∀ (inp : PeriodInput) (s : State) (k : Fin 4) (p i : Nat) (st : Step) (r : StepEndReason) (act : Action),
    RunsOn s inp k → (s.channels.get k).sequencer.program = some p → (s.channels.get k).sequencer.index = some i →
    (stepsOf s.loader.programs p)[i]? = some st → (s.channels.get k).sequencer.ended = false →
    (s.channels.get k).sequencer.counters.terms.length = 3 →
    (((s.channels.get k).sequencer.nextRequest = true ∧ r = .operator ∧ act = .next) ∨
      ((s.channels.get k).sequencer.nextRequest = false ∧ ∃ (j : Fin 3) (x : Term), st.terms[j.val]? = some x ∧
        TermMet s inp k j.val x ∧ (∀ (j' : Nat) (y : Term), j' < j.val → st.terms[j']? = some y → ¬ TermMet s inp k j' y) ∧
        act = x.action ∧ r = (match j with | 0 => .term1 | 1 => .term2 | 2 => .term3))) →
    let out := destination (stepsOf s.loader.programs p) i act (s.channels.get k).sequencer.stack
      (s.channels.get k).sequencer.cycles
    ∃ t, exec (.controlPeriod inp) s = .next t ∧ (t.channels.get k).drive = true ∧ (t.channels.get k).enabled = true ∧
      (t.channels.get k).sequencer.program = some p ∧ (t.channels.get k).sequencer.nextRequest = false ∧
      (t.channels.get k).sequencer.cycles = out.cycles ∧
      (∀ (j : Nat) (st' : Step), out.dest = .step j → (stepsOf s.loader.programs p)[j]? = some st' →
        (t.channels.get k).state = .running ∧ (t.channels.get k).sequencer.index = some j ∧
        (t.channels.get k).sequencer.ended = false ∧
        (t.channels.get k).sequencer.counters = ⟨0, 0, 0, 0, 0, [0, 0, 0]⟩ ∧
        (t.channels.get k).sequencer.stack = out.stack ∧ (t.channels.get k).pacer = ⟨st'.capture, st'.d, 1023⟩ ∧
        EntersPulse s k st'.kind (t.channels.get k) ∧
        (∀ vCv iSet, st'.kind = .chargeCV vCv iSet → (t.channels.get k).regulator.cv = iSet) ∧
        t.capture.channels.get k = offer (s.capture.channels.get k)
          (stepEndEntry s k i r (countedAfter s inp k) out.cycles)) ∧
      (out.dest = .finish →
        (t.channels.get k).state = .stopping ∧ (t.channels.get k).endReason = .complete ∧
        (t.channels.get k).stopRequest = .none ∧ (t.channels.get k).confirmed = true ∧
        (t.channels.get k).sequencer.index = some i ∧ (t.channels.get k).sequencer.ended = true ∧
        (t.channels.get k).sequencer.stack = [] ∧
        (t.channels.get k).live = LivePair.clear ∧ (t.channels.get k).staged = StagedPair.clear ∧
        t.capture.channels.get k = offerAll (s.capture.channels.get k)
          (stepEndEntry s k i .complete (countedAfter s inp k) out.cycles :: sampleEntries s inp k i))

/-- LOOP processing, the resolution of a destination and the GOTO pops, for the steps of a program that passes the loop
checks. The processing of a chain of LOOP steps is counted down by the program's length (log 20). -/
def Obligations.LoopsAndDestinations : Prop :=
  ∀ (steps : List Step), loopsOk steps = true → ∀ (d : Nat) (stack : List LoopEntry) (cycles : Nat),
    let R := resolve steps (resolveFuel steps)
    (steps.length ≤ d → R d stack cycles = ⟨.finish, stack, cycles⟩) ∧
    (∀ st, steps[d]? = some st → st.kind = .finish → R d stack cycles = ⟨.finish, stack, cycles⟩) ∧
    (∀ st, steps[d]? = some st → st.kind.working = true → R d stack cycles = ⟨.step d, stack, cycles⟩) ∧
    (∀ (st : Step) (t : Nat) (m : Bool) (n : Nat), steps[d]? = some st → st.kind = .loop t m n →
      let marked := if m = true then satInc cycles 4294967295 else cycles
      (∀ rest, stack = ⟨d, none⟩ :: rest → R d stack cycles = R t stack marked) ∧
      (∀ x rest, stack = ⟨d, some x⟩ :: rest → 1 < x →
        R d stack cycles = R t (⟨d, some (x - 1)⟩ :: rest) marked) ∧
      (∀ x rest, stack = ⟨d, some x⟩ :: rest → x ≤ 1 → R d stack cycles = R (d + 1) rest marked) ∧
      ((∀ e, stack.head? = some e → e.loop ≠ d) →
        (n = 0 → R d stack cycles = R t (⟨d, none⟩ :: stack) marked) ∧
        (n = 1 → R d stack cycles = R (d + 1) stack marked) ∧
        (2 ≤ n → R d stack cycles = R t (⟨d, some (n - 1)⟩ :: stack) marked))) ∧
    gotoPops steps d [] = [] ∧
    ∀ (e : LoopEntry) (rest : List LoopEntry),
      ((∃ st t m n, steps[e.loop]? = some st ∧ st.kind = .loop t m n ∧ t ≤ d ∧ d ≤ e.loop) →
        gotoPops steps d (e :: rest) = e :: gotoPops steps d rest) ∧
      (¬ (∃ st t m n, steps[e.loop]? = some st ∧ st.kind = .loop t m n ∧ t ≤ d ∧ d ≤ e.loop) →
        gotoPops steps d (e :: rest) = gotoPops steps d rest)

/-- An IDLE or ENDED channel takes its run request at a control period: it closes, or fails the pre-close check with its
FAULT entry, or drops the request under the stop line; without a request it stays as it is. That the tick count advances before the period's other work, so that
its entries carry the new count, is the model's reading (log 6). What is recorded only where the check passes is log 34. -/
def Obligations.RunRequestIsTaken : Prop :=
  (∀ (inp : PeriodInput) (s : State) (k : Fin 4), Works s k →
    ((s.channels.get k).state = .idle ∨ (s.channels.get k).state = .ended) → (s.channels.get k).runRequest = false →
    ∃ t, exec (.controlPeriod inp) s = .next t ∧ (t.channels.get k).state = (s.channels.get k).state ∧
      (t.channels.get k).runRequest = false ∧ (t.channels.get k).runProgram = (s.channels.get k).runProgram ∧
      (t.channels.get k).stopRequest = (s.channels.get k).stopRequest ∧
      (t.channels.get k).endReason = (s.channels.get k).endReason ∧
      (t.channels.get k).record = (s.channels.get k).record ∧
      (t.channels.get k).sequencer = (s.channels.get k).sequencer ∧ (t.channels.get k).drive = false ∧
      (t.channels.get k).enabled = false ∧ (t.channels.get k).setpoint = 0 ∧
      t.capture.channels.get k = s.capture.channels.get k) ∧
  ∀ (inp : PeriodInput) (s : State) (k : Fin 4), Works s k →
    ((s.channels.get k).state = .idle ∨ (s.channels.get k).state = .ended) → (s.channels.get k).runRequest = true →
    (s.channels.get k).record = none →
    ∃ t, exec (.controlPeriod inp) s = .next t ∧ (t.channels.get k).runRequest = false ∧
      (t.channels.get k).enabled = false ∧ (t.channels.get k).setpoint = 0 ∧
      (stopSeen s inp k = true → (t.channels.get k).state = (s.channels.get k).state ∧
        (t.channels.get k).drive = false ∧ (t.channels.get k).record = none ∧
        t.capture.channels.get k = s.capture.channels.get k) ∧
      (stopSeen s inp k = false → closedAfter s inp k = true → (t.channels.get k).state = .faulted ∧
        (t.channels.get k).drive = false ∧ (t.channels.get k).endReason = .fault ∧
        (t.channels.get k).record = some (recordOf s inp k .contactorStuck none none) ∧
        t.capture.channels.get k = offer (s.capture.channels.get k) (faultEntry s inp k .contactorStuck none)) ∧
      (stopSeen s inp k = false → closedAfter s inp k = false →
        ¬ ((limitsAfter s inp k).vMin ≤ (inp.channels.get k).v.toNat ∧
          (inp.channels.get k).v.toNat ≤ (limitsAfter s inp k).vMax) →
        (t.channels.get k).state = .faulted ∧ (t.channels.get k).drive = false ∧ (t.channels.get k).endReason = .fault ∧
        (t.channels.get k).record = some (recordOf s inp k .packVoltage none none) ∧
        t.capture.channels.get k = offer (s.capture.channels.get k) (faultEntry s inp k .packVoltage none)) ∧
      (stopSeen s inp k = false → closedAfter s inp k = false →
        (limitsAfter s inp k).vMin ≤ (inp.channels.get k).v.toNat →
        (inp.channels.get k).v.toNat ≤ (limitsAfter s inp k).vMax →
        (t.channels.get k).state = .closing ∧ (t.channels.get k).drive = true ∧ (t.channels.get k).endReason = .none ∧
        (t.channels.get k).record = none ∧ (t.channels.get k).closeTimer = 0 ∧ (t.channels.get k).chargeIn = 0 ∧
        (t.channels.get k).chargeOut = 0 ∧ (t.channels.get k).startMode = (s.channels.get k).holdMode ∧
        (t.channels.get k).startProgram = (s.channels.get k).runProgram ∧
        (t.channels.get k).sequencer = ⟨some (s.channels.get k).runProgram, none, false, [], Counters.zero, false, 0⟩ ∧
        (t.channels.get k).pacer = ⟨.off, 0, 0⟩ ∧ t.capture.channels.get k = s.capture.channels.get k)

/-- Closed feedback ends CLOSING with its close time and CHANNEL_START entry: STOPPING for a posted secure stop, else step 0
is entered in RUNNING or HELD, or an END step 0 finishes the run. That the tick count advances before the period's other
work, so that its entries carry the new count, is the model's reading (log 6). The channel meets the invariant that every
step keeps: in CLOSING no step is current, the pulse pairs are clear and the capture pacer is OFF. -/
def Obligations.ClosingEndsByFeedback : Prop :=
  ∀ (inp : PeriodInput) (s : State) (k : Fin 4), Works s k → ChannelInv (s.channels.get k) →
    (s.channels.get k).state = .closing →
    (s.channels.get k).stopRequest ≠ .fast → causesOf s inp k = [] → closedAfter s inp k = true →
    (∃ t, exec (.controlPeriod inp) s = .next t ∧
      (t.channels.get k).lastClose = (s.channels.get k).closeTimer + 1 ∧
      t.capture.channels.get k = offer (s.capture.channels.get k) (channelStartEntry s k)) ∧
    (∀ r, (s.channels.get k).stopRequest = .secure r →
      ∃ t, exec (.controlPeriod inp) s = .next t ∧ (t.channels.get k).state = .stopping ∧
        (t.channels.get k).endReason = r ∧ (t.channels.get k).stopRequest = .none ∧
        (t.channels.get k).sequencer.index = none ∧
        (t.channels.get k).lastClose = (s.channels.get k).closeTimer + 1 ∧
        (t.channels.get k).drive = true ∧ (t.channels.get k).enabled = true ∧
        t.capture.channels.get k = offer (s.capture.channels.get k) (channelStartEntry s k)) ∧
    (∀ p st rest, (s.channels.get k).stopRequest = .none → (s.channels.get k).sequencer.program = some p →
      stepsOf s.loader.programs p = st :: rest → st.kind.working = true →
      ∃ t, exec (.controlPeriod inp) s = .next t ∧
        (t.channels.get k).sequencer.index = some 0 ∧ (t.channels.get k).sequencer.ended = false ∧
        (t.channels.get k).sequencer.counters = Counters.zero ∧
        (t.channels.get k).pacer = ⟨st.capture, st.d, 1023⟩ ∧
        (HoldSeen s k → (t.channels.get k).state = .held ∧ (t.channels.get k).live = LivePair.clear ∧
          (∀ a b n, st.kind = .pulse a b n → (t.channels.get k).staged = ⟨true, a, b, n⟩) ∧
          ((∀ a b n, st.kind ≠ .pulse a b n) → (t.channels.get k).staged = StagedPair.clear)) ∧
        (¬ HoldSeen s k → (t.channels.get k).state = .running ∧ EntersPulse s k st.kind (t.channels.get k)) ∧
        (t.channels.get k).lastClose = (s.channels.get k).closeTimer + 1 ∧
        (t.channels.get k).drive = true ∧ (t.channels.get k).enabled = true ∧
        t.capture.channels.get k = offer (s.capture.channels.get k) (channelStartEntry s k)) ∧
    (∀ p st rest, (s.channels.get k).stopRequest = .none → (s.channels.get k).sequencer.program = some p →
      stepsOf s.loader.programs p = st :: rest → st.kind = .finish →
      ∃ t, exec (.controlPeriod inp) s = .next t ∧ (t.channels.get k).state = .stopping ∧
        (t.channels.get k).endReason = .complete ∧ (t.channels.get k).sequencer.index = none ∧
        (t.channels.get k).lastClose = (s.channels.get k).closeTimer + 1 ∧
        (t.channels.get k).drive = true ∧ (t.channels.get k).enabled = true ∧
        t.capture.channels.get k = offer (s.capture.channels.get k) (channelStartEntry s k))

/-- A posted SECURE stop moves RUNNING or HELD to STOPPING, a posted FAST stop moves every closed state to OPENING, and a
step that was current ends with its entry. That the confirmation is held from the period of entry is the model's reading
(log 33); that the tick count advances before the period's other work is log 6; that a stop taken in CLOSING in the period in
which the feedback first reads closed, or the close limit would be reached, makes the fast stop alone is log 40. -/
def Obligations.PostedStopsAreTaken : Prop :=
  (∀ (inp : PeriodInput) (s : State) (k : Fin 4) (r : EndReason), Works s k →
    ((s.channels.get k).state = .running ∨ (s.channels.get k).state = .held) → causesOf s inp k = [] →
    (s.channels.get k).stopRequest = .secure r →
    ∃ t, exec (.controlPeriod inp) s = .next t ∧ (t.channels.get k).state = .stopping ∧
      (t.channels.get k).endReason = r ∧ (t.channels.get k).stopRequest = .none ∧
      (t.channels.get k).confirmed = true ∧ (t.channels.get k).sequencer.nextRequest = false ∧
      ((s.channels.get k).sequencer.index ≠ none → (t.channels.get k).sequencer.ended = true) ∧
      (t.channels.get k).live = LivePair.clear ∧ (t.channels.get k).staged = StagedPair.clear ∧
      (t.channels.get k).drive = true ∧ (t.channels.get k).enabled = true ∧
      ∀ i, (r = .aborted ∨ r = .excluded) → (s.channels.get k).sequencer.index = some i →
        (s.channels.get k).sequencer.ended = false →
        t.capture.channels.get k = offerAll (s.capture.channels.get k)
          (stepEndEntry s k i .aborted (s.channels.get k).sequencer.counters (s.channels.get k).sequencer.cycles ::
            sampleEntries s inp k i)) ∧
  ∀ (inp : PeriodInput) (s : State) (k : Fin 4), Works s k →
    (s.channels.get k).state ∈ ([.closing, .running, .held, .stopping] : List ChannelState) →
    causesOf s inp k = [] → (s.channels.get k).stopRequest = .fast →
    ∃ t, exec (.controlPeriod inp) s = .next t ∧ (t.channels.get k).state = .opening ∧
      (t.channels.get k).endReason = .forceStop ∧ (t.channels.get k).stopRequest = .none ∧
      (t.channels.get k).setpoint = 0 ∧ (t.channels.get k).drive = false ∧ (t.channels.get k).enabled = false ∧
      (t.channels.get k).openTimer = 0 ∧ (t.channels.get k).sequencer.stack = [] ∧
      (t.channels.get k).sequencer.nextRequest = false ∧
      (t.channels.get k).live = LivePair.clear ∧ (t.channels.get k).staged = StagedPair.clear ∧
      (∀ i, (s.channels.get k).sequencer.index = some i → (s.channels.get k).sequencer.ended = false →
        t.capture.channels.get k = offer (s.capture.channels.get k)
          (stepEndEntry s k i .forceStop (s.channels.get k).sequencer.counters (s.channels.get k).sequencer.cycles)) ∧
      (((s.channels.get k).sequencer.index = none ∨ (s.channels.get k).sequencer.ended = true) →
        t.capture.channels.get k = s.capture.channels.get k)

/-- Stage 2 detects exactly the causes whose condition holds and whose state is armed. -/
def Obligations.CausesDetectedByTheTable : Prop :=
  ∀ (inp : PeriodInput) (s : State) (k : Fin 4) (c : Cause), Works s k →
    (c ∈ causesOf s inp k ↔
      (c = .estop ∧ (s.channels.get k).state ∈ ([.closing, .running, .held, .stopping] : List ChannelState) ∧
        stopSeen s inp k = true) ∨
      (c = .contactorDropped ∧ (s.channels.get k).state ∈ ([.running, .held, .stopping] : List ChannelState) ∧
        closedAfter s inp k = false) ∨
      (c = .converter ∧ (s.channels.get k).state ∈ ([.running, .held, .stopping] : List ChannelState) ∧
        faultAfter s inp k = true ∧ (s.channels.get k).enabled = true) ∨
      (c = .overvoltage ∧
        (s.channels.get k).state ∈ ([.closing, .running, .held, .stopping, .opening, .faulted] : List ChannelState) ∧
        (limitsAfter s inp k).vMax < (inp.channels.get k).v.toNat ∧ (s.channels.get k).persistence.overV + 1 = 3) ∨
      (c = .undervoltage ∧
        (s.channels.get k).state ∈ ([.closing, .running, .held, .stopping, .opening, .faulted] : List ChannelState) ∧
        closedAfter s inp k = true ∧ (inp.channels.get k).v.toNat < (limitsAfter s inp k).vMin ∧
        (s.channels.get k).persistence.underV + 1 = 3) ∨
      (c = .overtemp ∧
        (s.channels.get k).state ∈ ([.closing, .running, .held, .stopping, .opening, .faulted] : List ChannelState) ∧
        (limitsAfter s inp k).tMax < (inp.channels.get k).t.toInt ∧ (s.channels.get k).persistence.overT + 1 = 3) ∨
      (c = .currentDeviation ∧ (s.channels.get k).state ∈ ([.running, .held, .stopping] : List ChannelState) ∧
        (s.channels.get k).enabled = true ∧
        (s.loader.settings.channels.get k).tolerance <
          ((inp.channels.get k).i.toInt - (s.channels.get k).setpoint).natAbs ∧
        (s.channels.get k).persistence.deviation + 1 = 20))

/-- A detected fault takes precedence over stop and hold and makes a fast stop in the same period, with its FAULT entries and
the STEP_END entry of the step it ends; in OPENING and FAULTED it is only recorded. That the tick count advances before the
period's other work, so that its entries carry the new count, is the model's reading (log 6); so is that a fault detected in
CLOSING in the period in which the feedback first reads closed, or the close limit would be reached, makes the fast stop alone
(log 40). -/
def Obligations.FaultMakesFastStop : Prop :=
  (∀ (inp : PeriodInput) (s : State) (k : Fin 4) (c : Cause) (rest : List Cause), Works s k →
    (s.channels.get k).state ∈ ([.closing, .running, .held, .stopping] : List ChannelState) →
    causesOf s inp k = c :: rest →
    ∃ t, exec (.controlPeriod inp) s = .next t ∧ (t.channels.get k).state = .opening ∧
      (t.channels.get k).endReason = .fault ∧ (t.channels.get k).stopRequest = .none ∧
      (t.channels.get k).setpoint = 0 ∧ (t.channels.get k).drive = false ∧ (t.channels.get k).enabled = false ∧
      (t.channels.get k).openTimer = 0 ∧ (t.channels.get k).sequencer.stack = [] ∧
      (t.channels.get k).live = LivePair.clear ∧ (t.channels.get k).staged = StagedPair.clear ∧
      (t.channels.get k).record = (faultsRecorded s inp k (c :: rest)).1 ∧
      ((s.channels.get k).record = none → (t.channels.get k).record =
        some (recordOf s inp k c rest.head? (s.channels.get k).sequencer.index)) ∧
      (∀ i, (s.channels.get k).sequencer.index = some i → (s.channels.get k).sequencer.ended = false →
        t.capture.channels.get k = offerAll (s.capture.channels.get k) ((faultsRecorded s inp k (c :: rest)).2 ++
          [stepEndEntry s k i (if c = .estop then .estop else .fault) (s.channels.get k).sequencer.counters
            (s.channels.get k).sequencer.cycles])) ∧
      (((s.channels.get k).sequencer.index = none ∨ (s.channels.get k).sequencer.ended = true) →
        t.capture.channels.get k = offerAll (s.capture.channels.get k) (faultsRecorded s inp k (c :: rest)).2)) ∧
  ∀ (inp : PeriodInput) (s : State) (k : Fin 4), Works s k →
    ((s.channels.get k).state = .faulted ∨
      ((s.channels.get k).state = .opening ∧ closedAfter s inp k = true ∧
        (s.channels.get k).openTimer + 1 < (s.loader.settings.channels.get k).openLimit)) →
    ∃ t, exec (.controlPeriod inp) s = .next t ∧ (t.channels.get k).state = (s.channels.get k).state ∧
      (t.channels.get k).record = (faultsRecorded s inp k (causesOf s inp k)).1 ∧
      t.capture.channels.get k =
        offerAll (s.capture.channels.get k) (faultsRecorded s inp k (causesOf s inp k)).2

/-- A hold moves RUNNING to HELD with its counters halted and its pulse pairs set for the release; the release goes on under
FREEZE and starts the step again under RESTART. A FREEZE release whose period ends the step is among the periods of
StepEndsByTermOrOperator. That the tick count advances before the period's other work, so that its
entries carry the new count, is the model's reading (log 6); what the inactive live pair holds is the model's choice (log
41). -/
def Obligations.HoldHaltsAndReleases : Prop :=
  (∀ (inp : PeriodInput) (s : State) (k : Fin 4), Works s k → (s.channels.get k).state = .running →
    (s.channels.get k).stopRequest = .none → causesOf s inp k = [] → HoldSeen s k →
    ∃ t, exec (.controlPeriod inp) s = .next t ∧ (t.channels.get k).state = .held ∧
      (t.channels.get k).sequencer = { (s.channels.get k).sequencer with nextRequest := false } ∧
      (t.channels.get k).pacer = (s.channels.get k).pacer ∧ (t.channels.get k).drive = true ∧
      (t.channels.get k).enabled = true ∧ t.capture.channels.get k = s.capture.channels.get k ∧
      (∀ st a b n, stepNow s k = some st → st.kind = .pulse a b n →
        (t.channels.get k).live = { (s.channels.get k).live with active := false, remaining := 0 } ∧
        ((s.channels.get k).holdMode = .restart → (t.channels.get k).staged = ⟨true, a, b, n⟩) ∧
        ((s.channels.get k).holdMode = .freeze → (s.channels.get k).staged.valid = true →
          (t.channels.get k).staged = (s.channels.get k).staged) ∧
        ((s.channels.get k).holdMode = .freeze → (s.channels.get k).staged.valid = false →
          (t.channels.get k).staged = ⟨true, (s.channels.get k).live.amplitude, (s.channels.get k).live.base,
            (s.channels.get k).live.onTime⟩)) ∧
      (∀ st, stepNow s k = some st → (∀ a b n, st.kind ≠ .pulse a b n) →
        (t.channels.get k).live = (s.channels.get k).live ∧ (t.channels.get k).staged = (s.channels.get k).staged)) ∧
  (∀ (inp : PeriodInput) (s : State) (k : Fin 4), Works s k → (s.channels.get k).state = .held →
    (s.channels.get k).stopRequest = .none → causesOf s inp k = [] → s.console.hold = true →
    ∃ t, exec (.controlPeriod inp) s = .next t ∧ (t.channels.get k).state = .held ∧
      (t.channels.get k).sequencer = (s.channels.get k).sequencer ∧
      (t.channels.get k).pacer = (s.channels.get k).pacer ∧ (t.channels.get k).live = (s.channels.get k).live ∧
      (t.channels.get k).staged = (s.channels.get k).staged ∧
      t.capture.channels.get k = s.capture.channels.get k) ∧
  (∀ (inp : PeriodInput) (s : State) (k : Fin 4), Works s k → (s.channels.get k).state = .held →
    (s.channels.get k).stopRequest = .none → causesOf s inp k = [] → s.console.hold = false →
    (s.channels.get k).holdMode = .freeze → StepGoesOn s inp k →
    ∃ t, exec (.controlPeriod inp) s = .next t ∧ (t.channels.get k).state = .running ∧
      (t.channels.get k).sequencer.index = (s.channels.get k).sequencer.index ∧
      (t.channels.get k).sequencer.counters.time = satInc (s.channels.get k).sequencer.counters.time 4294967295 ∧
      (∀ st a b n, stepNow s k = some st → st.kind = .pulse a b n →
        ((t.channels.get k).live, (t.channels.get k).staged, (t.channels.get k).regulator.base) =
          pulsePeriod s.framePos (s.channels.get k).live (s.channels.get k).staged) ∧
      (∀ i, (s.channels.get k).sequencer.index = some i →
        t.capture.channels.get k = offerAll (s.capture.channels.get k) (sampleEntries s inp k i))) ∧
  ∀ (inp : PeriodInput) (s : State) (k : Fin 4) (i : Nat) (st : Step), Works s k → (s.channels.get k).state = .held →
    (s.channels.get k).stopRequest = .none → causesOf s inp k = [] → s.console.hold = false →
    (s.channels.get k).holdMode = .restart → (s.channels.get k).sequencer.index = some i → stepNow s k = some st →
    (s.channels.get k).sequencer.ended = false →
    ∃ t, exec (.controlPeriod inp) s = .next t ∧ (t.channels.get k).state = .running ∧
      (t.channels.get k).sequencer.index = some i ∧ (t.channels.get k).sequencer.counters = Counters.zero ∧
      (t.channels.get k).sequencer.stack = (s.channels.get k).sequencer.stack ∧
      (t.channels.get k).sequencer.cycles = (s.channels.get k).sequencer.cycles ∧
      (t.channels.get k).pacer = ⟨st.capture, st.d, 1023⟩ ∧ EntersPulse s k st.kind (t.channels.get k) ∧
      t.capture.channels.get k = offer (s.capture.channels.get k)
        (stepEndEntry s k i .restarted (s.channels.get k).sequencer.counters (s.channels.get k).sequencer.cycles)

/-- STOPPING waits for setpoint 0 and the confirmation, OPENING for open feedback, and the run ends in ENDED or FAULTED, a
cause detected in its last period recorded first. That the tick count advances before the period's other work, so that its entries carry the new count, is the model's
reading (log 6). The totals are capped at 4294967295 mAh (log 28). -/
def Obligations.StoppingAndOpeningEnd : Prop :=
  (∀ (inp : PeriodInput) (s : State) (k : Fin 4), Works s k → (s.channels.get k).state = .stopping →
    (s.channels.get k).stopRequest ≠ .fast → causesOf s inp k = [] →
    ∃ t, exec (.controlPeriod inp) s = .next t ∧ (t.channels.get k).endReason = (s.channels.get k).endReason ∧
      ((s.channels.get k).setpoint = 0 ∧ (s.channels.get k).confirmed = true →
        (t.channels.get k).state = .opening ∧ (t.channels.get k).openTimer = 0 ∧ (t.channels.get k).drive = false ∧
        (t.channels.get k).enabled = false ∧ (t.channels.get k).stopRequest = .none ∧
        t.capture.channels.get k = s.capture.channels.get k) ∧
      (¬ ((s.channels.get k).setpoint = 0 ∧ (s.channels.get k).confirmed = true) →
        (t.channels.get k).state = .stopping ∧ (t.channels.get k).drive = true ∧ (t.channels.get k).enabled = true ∧
        ∀ i, (s.channels.get k).sequencer.index = some i →
          t.capture.channels.get k = offerAll (s.capture.channels.get k) (sampleEntries s inp k i))) ∧
  (∀ (inp : PeriodInput) (s : State) (k : Fin 4), Works s k → (s.channels.get k).state = .opening →
    closedAfter s inp k = false →
    let faults := faultsRecorded s inp k (causesOf s inp k)
    ∃ t, exec (.controlPeriod inp) s = .next t ∧ (t.channels.get k).record = faults.1 ∧
      (faults.1 = none →
        (t.channels.get k).state = .ended ∧ (t.channels.get k).endReason = (s.channels.get k).endReason) ∧
      (faults.1 ≠ none → (t.channels.get k).state = .faulted ∧ (t.channels.get k).endReason = .fault) ∧
      t.capture.channels.get k = offerAll (s.capture.channels.get k)
        (faults.2 ++ [channelEndEntry s inp k (t.channels.get k).endReason])) ∧
  ∀ (inp : PeriodInput) (s : State) (k : Fin 4), Works s k → (s.channels.get k).state = .opening →
    causesOf s inp k = [] → closedAfter s inp k = true →
    (s.channels.get k).openTimer + 1 < (s.loader.settings.channels.get k).openLimit →
    ∃ t, exec (.controlPeriod inp) s = .next t ∧ (t.channels.get k).state = .opening ∧
      (t.channels.get k).openTimer = (s.channels.get k).openTimer + 1 ∧
      t.capture.channels.get k = s.capture.channels.get k

/-- After every control period the converter is enabled only in RUNNING, HELD or STOPPING, with the filtered feedback
closed. -/
def Obligations.ConverterOnlyThroughClosedContactor : Prop :=
  ∀ (inp : PeriodInput) (s : State) (k : Fin 4), Works s k →
    ∃ t, exec (.controlPeriod inp) s = .next t ∧
      ((t.channels.get k).enabled = true ↔
        (t.channels.get k).state ∈ ([.running, .held, .stopping] : List ChannelState)) ∧
      ((t.channels.get k).enabled = true → (t.channels.get k).feedback.level = true) ∧
      ((t.channels.get k).drive = true ↔
        (t.channels.get k).state ∈ ([.closing, .running, .held, .stopping] : List ChannelState)) ∧
      (t.channels.get k).setpointWord =
        setpointWord (if (t.channels.get k).enabled = true then (t.channels.get k).setpoint else 0)

/-- After every control period each working channel's setpoint has the sign of its grant and carries no more power than
it. -/
def Obligations.SetpointStaysInsideTheGrant : Prop :=
  ∀ (inp : PeriodInput) (s : State) (k : Fin 4), Works s k →
    ∃ t, exec (.controlPeriod inp) s = .next t ∧
      ((t.channels.get k).setpoint = 0 ∨
        (0 < (t.channels.get k).setpoint ∧ 0 < s.walk.grants.get k) ∨
        ((t.channels.get k).setpoint < 0 ∧ s.walk.grants.get k < 0)) ∧
      (t.channels.get k).setpoint.natAbs * max (inp.channels.get k).v.toNat 1 ≤
        (s.walk.grants.get k).natAbs * s.loader.settings.q * 10000

/-- The envelope and the cut setpoint of a period. -/
def Obligations.EnvelopeAndCut : Prop :=
  ∀ (l : Limits) (q : Nat) (g : Int) (v : Word) (s base : Int),
    let ig : Int := (g.natAbs * q * 10000 / max v.toNat 1 : Nat)
    let top := envelopeTop l q g v
    let bottom := envelopeBottom l q g v
    (0 < g → top = min (l.chgMax : Int) ig) ∧ (g ≤ 0 → top = 0) ∧
    (g < 0 → bottom = -(min (l.disMax : Int) ig)) ∧ (0 ≤ g → bottom = 0) ∧
    (bottom ≤ s ∧ s ≤ top → cutSetpoint top bottom s = s) ∧
    (0 < s ∧ top < s → cutSetpoint top bottom s = top) ∧
    (s < 0 ∧ s < bottom → cutSetpoint top bottom s = bottom) ∧
    bottom ≤ 0 ∧ 0 ≤ top ∧
    bottom ≤ grantLimit q g v (bandLimit l base) ∧ grantLimit q g v (bandLimit l base) ≤ top

/-- The ramp moves the cut setpoint toward the limited target by at most the ramp rate and never across 0. -/
def Obligations.RampOfTheSetpoint : Prop :=
  ∀ (r : Nat) (s c t : Int),
    (c = t → rampSetpoint r s c t = t) ∧
    (c ≠ t → c = 0 → (0 < s ∧ t < 0 ∨ s < 0 ∧ 0 < t) → rampSetpoint r s c t = 0) ∧
    (c ≠ t → ¬ (c = 0 ∧ (0 < s ∧ t < 0 ∨ s < 0 ∧ 0 < t)) → (0 ≤ c ∧ 0 ≤ t ∨ c ≤ 0 ∧ t ≤ 0) →
      rampSetpoint r s c t = if c < t then min (c + r) t else max (c - r) t) ∧
    ((0 < c ∧ t < 0 ∨ c < 0 ∧ 0 < t) →
      rampSetpoint r s c t = if c < 0 then min (c + r) 0 else max (c - r) 0) ∧
    (∀ lo hi : Int, lo ≤ 0 → 0 ≤ hi → lo ≤ c → c ≤ hi → lo ≤ t → t ≤ hi →
      lo ≤ rampSetpoint r s c t ∧ rampSetpoint r s c t ≤ hi) ∧
    (0 < s → 0 ≤ c → 0 ≤ rampSetpoint r s c t) ∧ (s < 0 → c ≤ 0 → rampSetpoint r s c t ≤ 0)

/-- A demand is what R110's table asks for by the channel's state and step, as a power rounded up to quanta, at most 200, with
its sign, and the grant it buys covers the current. That a CHARGE_CV channel asks for its CV target is the model's choice
(log 37), that the limit of DISCHARGE_CP is exact is log 30, and before the first period the band is a free value (log 9). -/
def Obligations.DemandBuysItsCurrent : Prop :=
  (∀ (q : Nat) (v : Word) (i : Int), 0 < q →
    let d := quantaOf q (i * (max v.toNat 1 : Nat))
    d.natAbs ≤ 200 ∧ (i = 0 → d = 0) ∧ (0 < i → 0 < d) ∧ (i < 0 → d < 0) ∧
    (i.natAbs * max v.toNat 1 ≤ 200 * q * 10000 →
      i.natAbs ≤ d.natAbs * q * 10000 / max v.toNat 1 ∧
      (i ≠ 0 → (d.natAbs - 1) * q * 10000 < i.natAbs * max v.toNat 1))) ∧
  ∀ (st : Settings) (programs : List Program) (k : Fin 4) (ch : Channel),
    let d := demandOf st programs k ch
    let l := limitsOf st (bandOf k ch) k
    ((st.channels.get k).enable = false → d = ⟨0, 0⟩) ∧ (d.quanta = 0 → d.cls = 0) ∧
    ((st.channels.get k).enable = true →
      (ch.state ∈ ([.idle, .ended] : List ChannelState) →
        d = if ch.runRequest = true then startDemand st.q l ch.vMeas (stepsOf programs ch.runProgram) else ⟨0, 0⟩) ∧
      (ch.state = .closing →
        d = if ch.stopRequest = .none then startDemand st.q l ch.vMeas (stepsOf programs ch.startProgram) else ⟨0, 0⟩) ∧
      (ch.state = .running → ∀ step, currentStep programs ch = some step →
        d = stepDemand st.q l ch.vMeas ch.regulator.cv step) ∧
      (ch.state = .stopping → d = demandFor st.q (ch.setpoint * (max ch.vMeas.toNat 1 : Nat)) 0) ∧
      (ch.state ∈ ([.held, .opening, .faulted] : List ChannelState) → d = ⟨0, 0⟩))

/-- Each working channel's band follows its temperature by the three thresholds and the hysteresis. -/
def Obligations.BandFollowsTemperature : Prop :=
  ∀ (inp : PeriodInput) (s : State) (k : Fin 4), Works s k →
    s.loader.settings.t1 < s.loader.settings.t2 → s.loader.settings.t2 < s.loader.settings.t3 →
    let x := (inp.channels.get k).t.toInt
    let reaches := fun n => n = 0 ∨ thresholdOf s.loader.settings n ≤ x
    let reachesLow := fun n => n = 0 ∨ thresholdOf s.loader.settings n - s.loader.settings.hyst ≤ x
    ∃ t b', exec (.controlPeriod inp) s = .next t ∧ (t.channels.get k).band = some b' ∧
      ((s.channels.get k).band = none → HighestBand reaches 3 b'.val) ∧
      (∀ b, (s.channels.get k).band = some b →
        (b.val < 3 ∧ thresholdOf s.loader.settings (b.val + 1) ≤ x → HighestBand reaches 3 b'.val) ∧
        (¬ (b.val < 3 ∧ thresholdOf s.loader.settings (b.val + 1) ≤ x) →
          (0 < b.val ∧ x < thresholdOf s.loader.settings b.val - s.loader.settings.hyst →
            HighestBand reachesLow (b.val - 1) b'.val) ∧
          (¬ (0 < b.val ∧ x < thresholdOf s.loader.settings b.val - s.loader.settings.hyst) → b' = b)))

/-- ROUND_START: the own rollover opens the next round in every block. That nothing happens outside READY is the model's
reading (log 5). -/
def Obligations.OwnRolloverStartsTheRound : Prop :=
  (∀ s : State, ¬ Ready s → exec .roundStart s = .next s) ∧
  ∀ s : State, Ready s → ∃ t, exec .roundStart s = .next t ∧ LinkFrame s t ∧
    t.timer.phase = 0 ∧ t.timer.round = s.timer.round + 1 ∧ t.lock.backoff = s.lock.backoff - 1 ∧
    (s.lock.state = .search → s.lock.listen ≠ 1 →
      t.lock = { s.lock with listen := s.lock.listen - 1, backoff := s.lock.backoff - 1 }) ∧
    t.heard = { s.heard with
      entries := s.heard.entries.map fun e => { e with heard := false }, disagreement := false, omission := false } ∧
    t.walk.walking = false ∧ t.walk.pendingHall = none ∧ t.walk.pendingLocal = none ∧
    (t.lock.pacer = true → t.link.line = some (.mark ⟨BitVec.ofNat 8 s.loader.settings.station, s.timer.round + 1,
      s.loader.digest⟩ false)) ∧
    (t.lock.pacer = false → s.link.line = none → t.link.line = none) ∧
    OnlyStarved s t ∧
    ∀ k, (t.channels.get k).sequencer.counters.starved =
      if (s.channels.get k).state = .running ∧
          StarvedBy (demandOf s.loader.settings s.loader.programs k (s.channels.get k)).quanta (t.walk.grants.get k) then
        satInc (s.channels.get k).sequencer.counters.starved 65535
      else (s.channels.get k).sequencer.counters.starved

/-- SELF_START in SEARCH and the takeover in LOCKED set the pacer flag and put the mark on the line. A row that names an
outcome stands for the whole event in which it comes about: the model's choice (log 4). That the held map is read
whatever its tag is the model's reading (log 19). -/
def Obligations.PacerRoleIsTaken : Prop :=
  (∀ s : State, Ready s → s.lock.state = .search → s.lock.listen = 1 →
    ∃ t, exec .selfStart s = .next t ∧ LinkFrame s t ∧ OnlyStarved s t ∧
      t.lock = ⟨.locked, 0, s.lock.lockCount, 0, true, 0, s.lock.backoff - 1⟩ ∧
      t.timer.phase = 0 ∧ t.timer.round = s.timer.round + 1 ∧
      t.link.line = some (.mark ⟨BitVec.ofNat 8 s.loader.settings.station, s.timer.round + 1, s.loader.digest⟩ false) ∧
      (s.member.state = .outside →
        t.member = { s.member with state := .joining, omissions := 0, confirmed := false, joinRounds := 0 }) ∧
      (s.member.state = .outside → s.walk.caution = false →
        t.capture.station = offerAll s.capture.station [.station s.tick .pacerSelfStart (s.timer.round + 1),
          .station s.tick (.memberJoining .outside) (s.timer.round + 1)])) ∧
  ∀ s : State, Ready s → s.lock.state = .locked → s.lock.pacer = false →
    ∃ t, exec .roundStart s = .next t ∧ LinkFrame s t ∧
      (t.lock.pacer = true ↔ 2 ≤ s.lock.missed ∧ s.lock.backoff - 1 = 0 ∧
        inMap s.heard.map s.loader.settings.station = true ∧
        ∀ j, 1 ≤ j → j < s.loader.settings.station → inMap s.heard.map j = false) ∧
      t.lock.state = .locked ∧ t.lock.missed = s.lock.missed ∧ t.lock.backoff = s.lock.backoff - 1 ∧
      (t.lock.pacer = true → t.lock.claimFails = 0 ∧ t.link.line = some (.mark
        ⟨BitVec.ofNat 8 s.loader.settings.station, s.timer.round + 1, s.loader.digest⟩ false) ∧
        (s.capture.station.entries.length ≤ 1 →
          .station s.tick (.pacerTakeover s.lock.missed) (s.timer.round + 1) ∈ t.capture.station.entries)) ∧
      (t.lock.pacer = false → t.lock.claimFails = s.lock.claimFails)

/-- A round start puts the pending result into effect that the membership after it calls for, clipped under caution, and
CAUTION_OFF is the second clean one, which clears caution with its entry and the caution round count. That a round start
without a local result gives zeros although a hall result is there, a case no run reaches, is the model's reading (log 35);
that one which excludes a LOCKED station gives zeros although its walk has completed is log 36. That the lock unit acts on
a mark before the round start it causes is log 21. A row that names an outcome stands for the whole event in which it comes
about: the model's choice (log 4). -/
def Obligations.GrantsAndCautionAtRoundStart : Prop :=
  (∀ (cause : RoundCause) (s : State), TakesRoundStart cause s →
    ∃ t, exec (roundEvent cause) s = .next t ∧ LinkFrame s t ∧
      t.walk.walking = false ∧ t.walk.pendingHall = none ∧ t.walk.pendingLocal = none ∧
      (s.walk.caution = false → t.walk.caution = false ∧ t.walk.clean = s.walk.clean ∧
        t.walk.cautionRounds = s.walk.cautionRounds) ∧
      (s.walk.caution = true → t.walk.cautionRounds = satInc s.walk.cautionRounds 65535 ∧
        (s.heard.disagreement = true → t.walk.caution = true ∧ t.walk.clean = 0) ∧
        (s.heard.disagreement = false → s.walk.clean = 0 → t.walk.caution = true ∧ t.walk.clean = 1) ∧
        (s.heard.disagreement = false → 1 ≤ s.walk.clean → t.walk.caution = false ∧ t.walk.clean = 0)) ∧
      (IslandsNow s t → t.walk.grants = Quad.same 0) ∧
      (ExcludedFromLock s t → t.walk.grants = Quad.same 0) ∧
      (s.walk.pendingLocal = none → t.walk.grants = Quad.same 0) ∧
      (t.member.state = .joined → s.walk.pendingHall = none → t.walk.grants = Quad.same 0) ∧
      (∀ h, t.member.state = .joined → s.walk.pendingLocal ≠ none → s.walk.pendingHall = some h → ∀ k,
        t.walk.grants.get k = if t.walk.caution = true then clipped s.loader.settings.floor (h.get k) else h.get k) ∧
      (∀ loc, t.member.state ≠ .joined → ¬ IslandsNow s t → ¬ ExcludedFromLock s t → s.walk.pendingLocal = some loc →
        t.walk.grants = loc)) ∧
  ∀ (cause : RoundCause) (s : State), TakesRoundStart cause s → s.walk.caution = true → s.walk.clean = 1 →
    s.heard.disagreement = false →
    ∃ t, exec (.cautionOff cause) s = .next t ∧ LinkFrame s t ∧ t.walk.caution = false ∧ t.walk.clean = 0 ∧
      t.walk.cautionRounds = satInc s.walk.cautionRounds 65535 ∧
      (s.capture.station.entries.length ≤ 1 →
        .station s.tick (.cautionOff (satInc s.walk.cautionRounds 65535)) t.timer.round ∈ t.capture.station.entries)

/-- ISLANDED_OMITTED: the second consecutive omission round islands a LOCKED station at the round start. A row that names
an outcome stands for the whole event in which it comes about: the model's choice (log 4). -/
def Obligations.SecondOmissionIslands : Prop :=
  ∀ (cause : RoundCause) (s : State), KeepsLock cause s →
    (s.member.state = .joining ∨ s.member.state = .joined) → s.member.omissions = 1 → s.heard.omission = true →
    ∃ t, exec (.islandedOmitted cause) s = .next t ∧ LinkFrame s t ∧ OnlyStarved s t ∧ Islanded s t ∧
      t.lock.state = .locked ∧
      (s.capture.station.entries.length ≤ 1 →
        .station s.tick (.islandedOmitted s.member.state) t.timer.round ∈ t.capture.station.entries)

/-- REJOIN and the join: the fourth dwell round start makes an ISLANDED station JOINING, a confirmed join makes it JOINED;
without LOCKED the dwell counts on to 4 and the station rejoins at the first round start at which it is LOCKED. A row that
names an outcome stands for the whole event in which it comes about: the model's choice (log 4). That the lock unit acts on a
mark before the round start it causes is log 21. -/
def Obligations.JoinDwellAndRejoin : Prop :=
  (∀ (cause : RoundCause) (s : State), KeepsLock cause s → s.member.state = .islanded → 3 ≤ s.member.dwell →
    ∃ t, exec (.rejoin cause) s = .next t ∧ LinkFrame s t ∧ OnlyStarved s t ∧ t.lock.state = .locked ∧
      t.member.state = .joining ∧ t.member.omissions = 0 ∧ t.member.confirmed = false ∧ t.member.joinRounds = 0 ∧
      t.member.readbackFails = s.member.readbackFails ∧
      (s.capture.station.entries.length ≤ 1 →
        .station s.tick (.memberJoining .islanded) t.timer.round ∈ t.capture.station.entries)) ∧
  (∀ (cause : RoundCause) (s : State), TakesRoundStart cause s →
    (∀ f arr, cause = .mark f arr → f.digest = s.loader.digest) → s.member.state = .islanded →
    ∃ t, exec (roundEvent cause) s = .next t ∧
      (3 ≤ s.member.dwell ∧ t.lock.state = .locked → t.member = { s.member with
        state := .joining, omissions := 0, confirmed := false, joinRounds := 0, dwell := 4 }) ∧
      (¬ (3 ≤ s.member.dwell ∧ t.lock.state = .locked) →
        t.member = { s.member with dwell := satInc s.member.dwell 4 })) ∧
  ∀ (cause : RoundCause) (s : State), KeepsLock cause s →
    ∃ t, exec (roundEvent cause) s = .next t ∧
      (s.member.state = .islanded → s.member.dwell < 3 →
        t.member = { s.member with dwell := s.member.dwell + 1 }) ∧
      (s.member.state = .joining → s.member.confirmed = true → ¬ (s.heard.omission = true ∧ 1 ≤ s.member.omissions) →
        t.member = { s.member with state := .joined, omissions := 0, confirmed := false } ∧
        (s.capture.station.entries.length ≤ 1 →
          .station s.tick (.memberJoined s.member.joinRounds) t.timer.round ∈ t.capture.station.entries)) ∧
      (s.member.state = .joining → s.member.confirmed = false → ¬ (s.heard.omission = true ∧ 1 ≤ s.member.omissions) →
        t.member = { s.member with omissions := if s.heard.omission = true then s.member.omissions + 1 else 0 }) ∧
      (s.member.state = .joined → ¬ (s.heard.omission = true ∧ 1 ≤ s.member.omissions) →
        t.member = { s.member with
          omissions := if s.heard.omission = true then s.member.omissions + 1 else 0, confirmed := false }) ∧
      ((s.member.state = .outside ∨ s.member.state = .excluded) → t.member = s.member)

/-- DEMAND_LATCH latches the channel blocks, and SHARE_FRAME_SEND sends them where LOCKED and JOINING or JOINED permit it.
Time as clock ticks is the model's choice (log 2). That station 1 latches in its round start and that a slot event
comes only while its phase lies ahead is the model's reading (log 23). -/
def Obligations.DemandsAreLatchedAndSent : Prop :=
  (∀ s : State, Ready s →
    s.timer.phase < (s.loader.settings.station - 1) * (s.loader.settings.pRound * 16000 / 64) →
    ∃ t, exec .demandLatch s = .next t ∧ QuietFrame s t ∧ t.draws = s.draws ∧ t.lock = s.lock ∧
      t.link.line = s.link.line ∧
      t.timer = { s.timer with
        phase := (s.loader.settings.station - 1) * (s.loader.settings.pRound * 16000 / 64), latched := true } ∧
      ∀ k, let ch := s.channels.get k
        let d := demandOf s.loader.settings s.loader.programs k ch
        ((s.loader.settings.channels.get k).enable = false → t.link.latched.get k = ⟨0, 0, .idle⟩) ∧
        ((s.loader.settings.channels.get k).enable = true →
          (t.link.latched.get k).demand = d.quanta ∧ (t.link.latched.get k).cls = d.cls ∧
          (((ch.state = .idle ∨ ch.state = .ended) ∧ ch.runRequest = true) → (t.link.latched.get k).state = .pending) ∧
          (¬ ((ch.state = .idle ∨ ch.state = .ended) ∧ ch.runRequest = true) →
            (reportedCode (t.link.latched.get k).state).toNat =
              match ch.state with
              | .idle => 0 | .closing => 1 | .running => 2 | .held => 3 | .stopping => 4 | .opening => 5
              | .ended => 6 | .faulted => 7))) ∧
  (∀ s : State, Ready s → s.loader.settings.station = 1 →
    ∃ t, exec .roundStart s = .next t ∧ t.timer.latched = true ∧ t.link.latched = latchBlocks t) ∧
  ∀ s : State, Ready s → s.timer.phase < s.loader.settings.station * (s.loader.settings.pRound * 16000 / 64) →
    ∃ t, exec .shareFrameSend s = .next t ∧ QuietFrame s t ∧ t.draws = s.draws ∧ t.lock = s.lock ∧
      t.timer.phase = s.loader.settings.station * (s.loader.settings.pRound * 16000 / 64) ∧
      t.timer.round = s.timer.round ∧
      ((s.lock.state = .locked ∧ (s.member.state = .joining ∨ s.member.state = .joined)) →
        ∃ f, t.link.line = some (.share f false) ∧ f.station = BitVec.ofNat 8 s.loader.settings.station ∧
          f.round = s.timer.round ∧ f.member = (if s.member.state = .joining then 1 else 2) ∧
          f.digest = s.loader.digest ∧ f.map = s.heard.map ∧ f.last = recordWord s.console.last ∧
          t.link.latched = (if s.timer.latched = true then s.link.latched else latchBlocks s) ∧
          ∀ k, f.blocks.get k = ⟨BitVec.ofInt 16 (t.link.latched.get k).demand,
            BitVec.ofNat 4 (t.link.latched.get k).cls, reportedCode (t.link.latched.get k).state⟩) ∧
      (¬ (s.lock.state = .locked ∧ (s.member.state = .joining ∨ s.member.state = .joined)) → t.link = s.link)

/-- Walk start classifies every heard-table entry by its mark and its status. That a walk start whose slot has passed is not
raised is the model's reading (log 23), that the phase counts clock ticks its choice (log 2), and that nothing happens outside
READY its reading (log 5). -/
def Obligations.WalkStartClassifies : Prop :=
  (∀ s : State, Ready s → s.timer.phase < 57 * (s.loader.settings.pRound * 16000 / 64) →
    ∃ t, exec .walkStart s = .next t ∧ t.heard.entries.length = s.heard.entries.length ∧
      ∀ (j : Nat) (e : HeardEntry), s.heard.entries[j]? = some e →
        ∃ e', t.heard.entries[j]? = some e' ∧
          (e.heard = true → e'.status = .present ∧ e'.carry = 0 ∧ e'.demands = e.demands) ∧
          (e.heard = false → e.status = .present → e'.status = .carried ∧ e'.carry = 1 ∧ e'.demands = e.demands) ∧
          (e.heard = false → e.status = .carried → e.carry = 1 →
            e'.status = .carried ∧ e'.carry = 2 ∧ e'.demands = e.demands) ∧
          (e.heard = false → e.status = .carried → e.carry = 2 →
            e'.status = .absent ∧ e'.carry = 0 ∧ e'.demands = Quad.same ⟨0, 0⟩) ∧
          (e.heard = false → e.status = .absent →
            e'.status = .absent ∧ e'.carry = 0 ∧ e'.demands = Quad.same ⟨0, 0⟩) ∧
          (e'.status ≠ .absent → e'.carry ≤ 2) ∧ (e'.status = .absent → e'.demands = Quad.same ⟨0, 0⟩)) ∧
  ∀ s : State, (¬ Ready s ∨ 57 * (s.loader.settings.pRound * 16000 / 64) ≤ s.timer.phase) →
    exec .walkStart s = .next s

/-- WALK_START takes map, snapshot, local inputs and walk kinds, and WALK_COMPLETION keeps the own grants as pending
results. Time as clock ticks is the model's choice (log 2). That a walk start comes only while its phase lies ahead is
the model's reading (log 23). -/
def Obligations.WalkStartAndCompletion : Prop :=
  (∀ s : State, Ready s → s.timer.phase < 57 * (s.loader.settings.pRound * 16000 / 64) → s.heard.entries.length = 48 →
    ∃ t, exec .walkStart s = .next t ∧ LinkFrame s t ∧ t.capture = s.capture ∧ t.draws = s.draws ∧ t.lock = s.lock ∧
      t.link = s.link ∧ t.channels = s.channels ∧
      t.timer = { s.timer with phase := 57 * (s.loader.settings.pRound * 16000 / 64) } ∧
      (∀ n, 1 ≤ n → n ≤ 48 → (inMap t.heard.map n = true ↔ (heardEntry t.heard n).status = .present)) ∧
      t.heard.tag = some s.timer.round ∧ t.heard.disagreement = s.heard.disagreement ∧
      t.heard.omission = s.heard.omission ∧
      (∀ x, x ∈ t.walk.hallInputs ↔ ∃ n, 1 ≤ n ∧ n ≤ 48 ∧ (heardEntry t.heard n).status ≠ .absent ∧
        x = ⟨n, (heardEntry t.heard n).demands⟩) ∧
      (∀ k, t.walk.localInputs.get k = demandOf s.loader.settings s.loader.programs k (s.channels.get k)) ∧
      (t.walk.runsHall = true ↔ s.member.state = .joining ∨ s.member.state = .joined) ∧
      t.walk.walking = true ∧ t.walk.pendingHall = none ∧ t.walk.pendingLocal = none ∧
      t.walk.grants = s.walk.grants ∧ t.walk.caution = s.walk.caution ∧ t.walk.clean = s.walk.clean ∧
      t.walk.cautionRounds = s.walk.cautionRounds ∧
      (s.member.state ≠ .joining → t.member = s.member) ∧
      (s.member.state = .joining → t.member.state = .joining ∧
        t.member.joinRounds = satInc s.member.joinRounds 65535 ∧
        ((heardEntry t.heard s.loader.settings.station).status = .present → t.member.confirmed = true) ∧
        ((heardEntry t.heard s.loader.settings.station).status ≠ .present →
          t.member.confirmed = s.member.confirmed))) ∧
  (∀ s : State, s.walk.walking = true → exec .walkCompletion s = .next (s.setWalk { s.walk with
    walking := false, discardHall := false,
    pendingHall := if s.walk.runsHall = true ∧ s.walk.discardHall = false then
        some (ownGrants s.loader.settings.station (walkItems s.loader.settings.lImp s.loader.settings.lExp
          s.loader.settings.guard (hallItems s.walk.hallInputs)))
      else none,
    pendingLocal := some (ownGrants s.loader.settings.station (walkItems s.loader.settings.aIsl s.loader.settings.aIsl 0
      (itemsOf s.loader.settings.station s.walk.localInputs))) })) ∧
  (∀ s : State, s.walk.walking = false → exec .walkCompletion s = .next s) ∧
  ∀ (st : Settings) (inputs : List SnapshotEntry), (∀ e ∈ inputs, e.station ≠ st.station) →
    ownGrants st.station (walkItems st.lImp st.lExp st.guard (hallItems inputs)) = Quad.same 0

/-- The walk takes the items in walk order and serves each draw and each supply from what the earlier ones left. -/
def Obligations.WalkServesInOrder : Prop :=
  ∀ (imp exp grd : Nat) (items : List Item),
    ((walkItems imp exp grd items).map Prod.fst).Perm items ∧
    ((walkItems imp exp grd items).map Prod.fst).Pairwise (fun a b => Item.before a b = true) ∧
    ∀ (pre post : List (Item × Int)) (x : Item) (g : Int),
      walkItems imp exp grd items = pre ++ (x, g) :: post →
      (x.demand = 0 → g = 0) ∧
      (0 < x.demand → g = (min x.demand.toNat
        (imp - grd + (items.map fun it => (-it.demand).toNat).sum - (pre.map fun p => p.1.demand.toNat).sum) : Nat)) ∧
      (x.demand < 0 → g = -((min (-x.demand).toNat
        (exp - grd + ((walkItems imp exp grd items).map fun p => p.2.toNat).sum -
          (pre.map fun p => (-p.1.demand).toNat).sum) : Nat) : Int))

/-- The grants of a walk respect the demands, and granted draws less granted supplies stay within the guarded limits. -/
def Obligations.WalkBounds : Prop :=
  ∀ (imp exp grd : Nat) (items : List Item), grd ≤ imp → grd ≤ exp →
    let r := walkItems imp exp grd items
    (∀ p ∈ r, (p.2 = 0 ∨ (0 < p.2 ∧ 0 < p.1.demand) ∨ (p.2 < 0 ∧ p.1.demand < 0)) ∧
      p.2.natAbs ≤ p.1.demand.natAbs) ∧
    (-((exp : Int) - grd) ≤ ((r.map fun p => p.2.toNat).sum : Int) - ((r.map fun p => (-p.2).toNat).sum : Int) ∧
      ((r.map fun p => p.2.toNat).sum : Int) - ((r.map fun p => (-p.2).toNat).sum : Int) ≤ (imp : Int) - grd) ∧
    ¬ ((∃ p ∈ r, 0 < p.1.demand ∧ p.2 < p.1.demand) ∧ ∃ p ∈ r, p.1.demand < 0 ∧ p.1.demand < p.2)

/-- MARK_RECEIVED starts acquisition from SEARCH and counts it in ACQUIRE, and ENTER_LOCKED is the 32nd in-window mark. A
row that names an outcome stands for the whole event in which it comes about: the model's choice (log 4). Time as
clock ticks is the model's choice (log 2). That the lock unit acts on a mark before the round start it causes is the
model's reading (log 21). The window stays open until it is settled (log 15). -/
def Obligations.MarksInSearchAndAcquire : Prop :=
  (∀ (f : MarkFrame) (arr : Arrival) (s : State), Ready s → s.lock.state = .search → ValidMark s f →
    ∃ t, exec (.markReceived f arr) s = .next t ∧ LinkFrame s t ∧ OnlyStarved s t ∧ Rephased s t f arr ∧
      t.lock = ⟨.acquire, 0, 1, 0, false, 0, s.lock.backoff - 1⟩ ∧
      t.heard = clearRound s.heard ∧ t.walk.pendingHall = none ∧ t.walk.pendingLocal = none ∧ t.walk.walking = false ∧
      (s.member.state = .outside ∨ s.member.state = .excluded → t.member = s.member)) ∧
  (∀ (f : MarkFrame) (arr : Arrival) (s : State), Ready s → s.lock.state = .acquire → ValidMark s f →
    ∃ t, exec (.markReceived f arr) s = .next t ∧ LinkFrame s t ∧ OnlyStarved s t ∧ Rephased s t f arr ∧
      t.lock.missed = 0 ∧
      (placeOf s arr = .outside → t.lock.state = .acquire ∧ t.lock.lockCount = 1 ∧ t.heard = clearRound s.heard) ∧
      (placeOf s arr ≠ .outside → t.lock.lockCount = satInc s.lock.lockCount 32) ∧
      (placeOf s arr ≠ .outside → (s.lock.lockCount < 31 ∨ s.member.state = .excluded) → t.lock.state = .acquire) ∧
      (placeOf s arr = .beforeRollover → t.heard = clearRound s.heard) ∧
      (placeOf s arr = .afterRollover → t.heard = s.heard)) ∧
  ∀ (f : MarkFrame) (arr : Arrival) (s : State), Ready s → s.lock.state = .acquire → f.digest = s.loader.digest →
    s.member.state ≠ .excluded → s.lock.lockCount = 31 → placeOf s arr ≠ .outside →
    ∃ t, exec (.enterLocked f arr) s = .next t ∧ LinkFrame s t ∧ OnlyStarved s t ∧ Rephased s t f arr ∧
      t.lock.state = .locked ∧ t.lock.lockCount = 32 ∧ t.lock.missed = 0 ∧ t.lock.pacer = s.lock.pacer ∧
      (s.member.state = .outside →
        t.member = { s.member with state := .joining, omissions := 0, confirmed := false, joinRounds := 0 } ∧
        (s.capture.station.entries.length ≤ 1 →
          .station s.tick (.memberJoining .outside) f.round ∈ t.capture.station.entries))

/-- A LOCKED follower follows an in-window mark, and an out-of-window mark is a loss of lock. Time as clock ticks is the
model's choice (log 2). That the lock unit acts on a mark before the round start it causes is the model's reading (log
21). The window stays open until it is settled (log 15). -/
def Obligations.LockedFollowerFollowsMarks : Prop :=
  ∀ (f : MarkFrame) (arr : Arrival) (s : State), Ready s → s.lock.state = .locked → s.lock.pacer = false →
    ValidMark s f →
    ∃ t, exec (.markReceived f arr) s = .next t ∧ LinkFrame s t ∧ OnlyStarved s t ∧ Rephased s t f arr ∧
      (placeOf s arr = .afterRollover → QuietFrame s t ∧ t.lock = { s.lock with missed := 0 }) ∧
      (placeOf s arr = .beforeRollover →
        t.lock = { s.lock with missed := 0, backoff := s.lock.backoff - 1 } ∧ t.heard = clearRound s.heard) ∧
      (placeOf s arr = .outside →
        t.lock = ⟨.acquire, 0, 1, 0, false, 0, s.lock.backoff - 1⟩ ∧ t.heard = clearRound s.heard ∧ Islanded s t ∧
        LockLostEntry s t)

/-- MARK_WINDOW_PASSES counts missed marks; COAST_LIMIT and RETURN_TO_SEARCH are the sixteenth and lead to SEARCH. A row
that names an outcome stands for the whole event in which it comes about: the model's choice (log 4). The window stays
open until it is settled (log 15). Which PACER_OFF entry a readback gives that reaches both limits is a free value (log 10). -/
def Obligations.MissedMarksCountAndReturn : Prop :=
  (∀ s : State, WindowOpen s →
    ((s.lock.missed < 15 ∨ (s.lock.missed = 15 ∧ s.lock.state = .acquire ∧ s.member.state = .excluded)) →
      ∃ t, exec .markWindowPasses s = .next t ∧ QuietFrame s t ∧ t.draws = s.draws ∧ t.timer.round = s.timer.round ∧
        t.timer.settled = true ∧ t.timer.latched = s.timer.latched ∧
        t.lock = { s.lock with
          missed := s.lock.missed + 1, lockCount := if s.lock.state = .acquire then 0 else s.lock.lockCount }) ∧
    (s.lock.missed = 16 → s.lock.state = .acquire → s.member.state = .excluded →
      ∃ t, exec .markWindowPasses s = .next t ∧ QuietFrame s t ∧ t.lock = { s.lock with lockCount := 0 })) ∧
  (∀ s : State, WindowOpen s → s.lock.state = .locked → s.lock.missed = 15 →
    ∃ t, exec (.coastLimit .windowPasses) s = .next t ∧ LinkFrame s t ∧ t.channels = s.channels ∧ t.heard = s.heard ∧
      t.lock = ⟨.search, 4 + s.loader.settings.station, 0, 0, false, 0, s.lock.backoff⟩ ∧
      t.timer.round = s.timer.round ∧ Islanded s t ∧
      t.capture.station = offerAll s.capture.station (lockLostEntries s .search)) ∧
  (∀ (bytes : List Byte) (f : MarkFrame) (cut : Bool) (s : State), MarkSent s f cut →
    ReadsBadly (markBytes f) bytes cut → s.lock.missed = 15 →
    ∃ t, exec (.coastLimit (.readback bytes)) s = .next t ∧ LinkFrame s t ∧ t.channels = s.channels ∧
      t.heard = s.heard ∧ t.timer = s.timer ∧ t.link.line = none ∧ t.lock.state = .search ∧
      t.lock.listen = 4 + s.loader.settings.station ∧ t.lock.lockCount = 0 ∧ t.lock.missed = 0 ∧
      t.lock.pacer = false ∧ t.lock.claimFails = 0 ∧ Islanded s t ∧
      ∃ ev, (ev = .pacerCoastLimit ∨ (1 ≤ s.lock.claimFails ∧ ev = .pacerClaimFailed s.loader.settings.station)) ∧
        t.capture.station = offerAll s.capture.station
          (.station s.tick ev s.timer.round :: lockLostEntries s .search)) ∧
  ∀ s : State, WindowOpen s → s.lock.state = .acquire → s.member.state ≠ .excluded → s.lock.missed = 15 →
    ∃ t, exec .returnToSearch s = .next t ∧ QuietFrame s t ∧ t.timer.round = s.timer.round ∧
      t.lock = ⟨.search, 4 + s.loader.settings.station, 0, 0, false, 0, s.lock.backoff⟩

/-- MARK_READBACK and CLAIM_FAILED: a good readback clears both counts, a failed one raises them, and the second ends the
role. A row that names an outcome stands for the whole event in which it comes about: the model's choice (log 4). -/
def Obligations.OwnMarkReadback : Prop :=
  (∀ (f : MarkFrame) (s : State), MarkSent s f false →
    ∃ t, exec (.markReadback (markBytes f)) s = .next t ∧ QuietFrame s t ∧ t.timer = s.timer ∧ t.link.line = none ∧
      t.link.latched = s.link.latched ∧ t.lock = { s.lock with claimFails := 0, missed := 0 }) ∧
  (∀ (bytes : List Byte) (f : MarkFrame) (cut : Bool) (s : State), MarkSent s f cut →
    ReadsBadly (markBytes f) bytes cut → s.lock.missed < 15 → s.lock.claimFails = 0 →
    ∃ t, exec (.markReadback bytes) s = .next t ∧ QuietFrame s t ∧ t.timer = s.timer ∧ t.link.line = none ∧
      t.lock = { s.lock with claimFails := 1, missed := s.lock.missed + 1 }) ∧
  ∀ (bytes : List Byte) (f : MarkFrame) (cut : Bool) (s : State), MarkSent s f cut →
    ReadsBadly (markBytes f) bytes cut → s.lock.missed < 15 → s.lock.claimFails = 1 →
    ∃ t, exec (.claimFailed bytes) s = .next t ∧ LinkFrame s t ∧ t.timer = s.timer ∧ t.member = s.member ∧
      t.heard = s.heard ∧ t.walk = s.walk ∧ t.channels = s.channels ∧ t.link.line = none ∧
      t.lock = { s.lock with
        pacer := false, claimFails := 0, backoff := s.loader.settings.station, missed := s.lock.missed + 1 } ∧
      t.capture.station = offer s.capture.station
        (.station s.tick (.pacerClaimFailed s.loader.settings.station) s.timer.round)

/-- A pacer yields to a valid mark of a lower station number at any time and ignores marks of an equal or higher number. Time
as clock ticks is the model's choice (log 2). That the lock unit acts on a mark before the round start it causes is the
model's reading (log 21). -/
def Obligations.PacerYieldsToALowerMark : Prop :=
  (∀ (f : MarkFrame) (arr : Arrival) (s : State), Ready s → s.lock.state = .locked → s.lock.pacer = true →
    ValidMark s f → f.station.toNat < s.loader.settings.station →
    ∃ t, exec (.markReceived f arr) s = .next t ∧ LinkFrame s t ∧ OnlyStarved s t ∧ Rephased s t f arr ∧
      t.lock = ⟨.acquire, 0, 1, 0, false, 0, s.lock.backoff - 1⟩ ∧ t.heard = clearRound s.heard ∧ Islanded s t ∧
      LockLostEntry s t ∧
      (s.capture.station.entries.length ≤ 1 →
        .station s.tick (.pacerYielded f.station) f.round ∈ t.capture.station.entries)) ∧
  ∀ (f : MarkFrame) (arr : Arrival) (s : State), Ready s → s.lock.state = .locked → s.lock.pacer = true →
    s.loader.settings.station ≤ f.station.toNat →
    exec (.markReceived f arr) s = .next (advanceTo s arr.now)

/-- A mark of a differing hall digest excludes the station, except at a pacer that ignores it, and its notice reaches every
channel. Time as clock ticks is the model's choice (log 2). That the lock unit acts on a mark before the round start it causes
is the model's reading (log 21). That the mark which would be the 32nd does not lock the station is the model's reading (log
29). That a LOCKED station's grants are zero although its walk has completed is log 36. -/
def Obligations.HallMismatchExcludes : Prop :=
  ∀ (f : MarkFrame) (arr : Arrival) (s : State), Ready s → s.member.state ≠ .excluded → f.digest ≠ s.loader.digest →
    (s.lock.pacer = true → s.lock.state = .locked ∧ f.station.toNat < s.loader.settings.station) →
    ∃ t, exec (.markReceived f arr) s = .next t ∧ LinkFrame s t ∧ Rephased s t f arr ∧
      t.member = { s.member with state := .excluded, omissions := 0, dwell := 0, confirmed := false } ∧
      t.lock.state = .acquire ∧ t.lock.pacer = false ∧
      (s.lock.state ≠ .acquire → t.lock.lockCount = 1) ∧
      (s.lock.state = .locked → t.walk.grants = Quad.same 0) ∧
      (∀ k, ((s.channels.get k).state ≠ .running → t.channels.get k = noticed (s.channels.get k)) ∧
        ∃ n, t.channels.get k = { noticed (s.channels.get k) with
          sequencer := { (s.channels.get k).sequencer with
            counters := { (s.channels.get k).sequencer.counters with starved := n } } }) ∧
      (s.capture.station.entries.length ≤ 1 →
        .station s.tick (.excludedMismatch f.station) f.round ∈ t.capture.station.entries)

/-- SHARE_RECEIVED: an accepted frame writes its entry, and its map sets the conditions and caution. Time as clock ticks
is the model's choice (log 2). That a frame which passes the tests is accepted in SEARCH too is the model's reading (log 42). -/
def Obligations.AcceptedShareFrame : Prop :=
  (∀ (f : ShareFrame) (arr : Arrival) (s : State), Ready s → SharePasses s f arr → s.heard.entries.length = 48 →
    let tagged : Prop := s.heard.tag = some (s.timer.round - 1)
    let first : Prop := tagged ∧ f.map ≠ s.heard.map ∧ s.heard.disagreement = false
    ∃ t, exec (.shareReceived f arr) s = .next t ∧ LinkFrame s t ∧ t.draws = s.draws ∧ t.lock = s.lock ∧
      t.link = s.link ∧ t.member = s.member ∧ t.channels = s.channels ∧ t.timer.round = s.timer.round ∧
      heardEntry t.heard f.station.toNat = { heardEntry s.heard f.station.toNat with
        heard := true, demands := f.blocks.map fun b => ⟨b.demand.toInt, b.cls.toNat⟩ } ∧
      (∀ n, 1 ≤ n → n ≠ f.station.toNat → heardEntry t.heard n = heardEntry s.heard n) ∧
      t.heard.map = s.heard.map ∧ t.heard.tag = s.heard.tag ∧
      (t.heard.disagreement = true ↔ s.heard.disagreement = true ∨ (tagged ∧ f.map ≠ s.heard.map)) ∧
      (t.heard.omission = true ↔ s.heard.omission = true ∨ (tagged ∧
        inMap f.map s.loader.settings.station = false ∧ inMap s.heard.map s.loader.settings.station = true)) ∧
      (¬ first → t.walk = s.walk ∧ t.capture = s.capture) ∧
      (first → s.walk.caution = true → t.walk = { s.walk with clean := 0 } ∧ t.capture = s.capture) ∧
      (first → s.walk.caution = false →
        t.walk = { s.walk with caution := true, clean := 0, cautionRounds := 0 } ∧
        t.capture.station = offer s.capture.station (.station s.tick (.cautionOn f.station) s.timer.round))) ∧
  ∀ (f : ShareFrame) (arr : Arrival) (s : State), Ready s → ¬ SharePasses s f arr →
    exec (.shareReceived f arr) s = .next (advanceTo s arr.now)

/-- SHARE_READBACK and NUMBER_CONFLICT: success writes the own entry, the third consecutive failure excludes the station.
A row that names an outcome stands for the whole event in which it comes about: the model's choice (log 4). -/
def Obligations.OwnShareReadback : Prop :=
  (∀ (bytes : List Byte) (f : ShareFrame) (s : State), s.link.line = some (.share f true) →
    exec (.shareReadback bytes) s = .next (s.setLink { s.link with line := none })) ∧
  (∀ (f : ShareFrame) (s : State), s.link.line = some (.share f false) → s.heard.entries.length = 48 →
    1 ≤ s.loader.settings.station → s.loader.settings.station ≤ 48 →
    ∃ t, exec (.shareReadback (shareBytes f)) s = .next t ∧ LinkFrame s t ∧ t.capture = s.capture ∧ t.lock = s.lock ∧
      t.timer = s.timer ∧ t.walk = s.walk ∧ t.channels = s.channels ∧ t.link.line = none ∧
      t.member = { s.member with readbackFails := 0 } ∧
      heardEntry t.heard s.loader.settings.station = { heardEntry s.heard s.loader.settings.station with
        heard := true, demands := f.blocks.map fun b => ⟨b.demand.toInt, b.cls.toNat⟩ } ∧
      ∀ n, 1 ≤ n → n ≠ s.loader.settings.station → heardEntry t.heard n = heardEntry s.heard n) ∧
  (∀ (bytes : List Byte) (f : ShareFrame) (s : State), s.link.line = some (.share f false) → bytes ≠ shareBytes f →
    s.member.readbackFails < 2 →
    ∃ t, exec (.shareReadback bytes) s = .next t ∧ LinkFrame s t ∧ t.capture = s.capture ∧ t.lock = s.lock ∧
      t.timer = s.timer ∧ t.walk = s.walk ∧ t.channels = s.channels ∧ t.heard = s.heard ∧ t.link.line = none ∧
      t.member = { s.member with readbackFails := s.member.readbackFails + 1 }) ∧
  ∀ (bytes : List Byte) (f : ShareFrame) (s : State), s.link.line = some (.share f false) → bytes ≠ shareBytes f →
    s.member.readbackFails = 2 → s.member.state ≠ .excluded →
    ∃ t, exec (.numberConflict bytes) s = .next t ∧ LinkFrame s t ∧ t.timer = s.timer ∧ t.walk = s.walk ∧
      t.heard = s.heard ∧ t.link.line = none ∧
      t.member = { s.member with
        state := .excluded, omissions := 0, dwell := 0, confirmed := false, readbackFails := 3 } ∧
      (s.lock.state = .locked → t.lock = { s.lock with
        state := .acquire, lockCount := 32, missed := 0, pacer := false, claimFails := 0 }) ∧
      (s.lock.state ≠ .locked → t.lock = s.lock) ∧
      (∀ k, t.channels.get k = noticed (s.channels.get k)) ∧
      t.capture.station = offerAll s.capture.station
        ((if s.lock.pacer = true then [.station s.tick .pacerExcluded s.timer.round] else []) ++
          [.station s.tick .excludedConflict s.timer.round])

/-- A frame that fails its check, and a CONSOLE frame that is not taken, change nothing. The bit order of the CRC-16 is
presumed (log 1), time as clock ticks is the model's choice (log 2), and that nothing happens outside READY is the model's
reading (log 5). -/
def Obligations.FramesWithoutEffect : Prop :=
  (∀ (bytes : List Byte) (s : State), exec (.frameCheckFailed bytes) s = .next s) ∧
  (∀ (bytes : List Byte) (arr : Arrival),
    (bytes = [] ∨
      (∃ k rest, bytes = k :: rest ∧
        ((k ≠ 0x31 ∧ k ≠ 0x32 ∧ k ≠ 0x33) ∨ (k = 0x31 ∧ bytes.length ≠ 7) ∨ (k = 0x32 ∧ bytes.length ≠ 28) ∨
          (k = 0x33 ∧ bytes.length ≠ 9) ∨
          (2 ≤ bytes.length ∧ bytes.drop (bytes.length - 2) ≠
            [hiByte (crc16 (bytes.take (bytes.length - 2))), loByte (crc16 (bytes.take (bytes.length - 2)))])))) →
    frameRow bytes arr = some (.frameCheckFailed bytes)) ∧
  (∀ (c : Command) (f : ConsoleFrame) (arr : Arrival) (s : State), Ready s → ¬ ConsolePasses c s f arr →
    exec (consoleRow c f arr) s = .next (advanceTo s arr.now)) ∧
  ∀ (c : Command) (f : ConsoleFrame) (arr : Arrival) (s : State), ¬ Ready s → exec (consoleRow c f arr) s = .next s

/-- The bytes of every MARK, SHARE and CONSOLE frame are checked and read back as that frame, with every field. The bit
order of the CRC-16 is presumed (log 1). -/
def Obligations.FramesRoundTrip : Prop :=
  (∀ (f : MarkFrame) (arr : Arrival), frameRow (markBytes f) arr = some (.markReceived f arr)) ∧
  (∀ (f : ShareFrame) (arr : Arrival), frameRow (shareBytes f) arr = some (.shareReceived f arr)) ∧
  ∀ (c : Command) (f : ConsoleFrame) (arr : Arrival), frameRow (consoleBytes c f) arr = some (consoleRow c f arr)

/-- START, ABORT, FORCE_STOP, CLEAR_FAULT, SET_HOLD_MODE and NEXT_STEP act on each reached channel by its state: START judges
it by the four tests in order, and an accepted START sets its run request. Time as clock ticks is the model's choice (log 2),
and so is the taking of a frame whose check completes after walk start (log 39). -/
def Obligations.CommandsToChannels : Prop :=
  (∀ (f : ConsoleFrame) (arr : Arrival) (s : State), Taken .start s f arr →
    ∃ t, exec (.start f arr) s = .next t ∧ ChannelsAnswer .start s t f (startRule s f.arg.toNat)) ∧
  (∀ (f : ConsoleFrame) (arr : Arrival) (s : State), Taken .abort s f arr →
    ∃ t, exec (.abort f arr) s = .next t ∧ ChannelsAnswer .abort s t f abortRule) ∧
  (∀ (f : ConsoleFrame) (arr : Arrival) (s : State), Taken .forceStop s f arr →
    ∃ t, exec (.forceStop f arr) s = .next t ∧ ChannelsAnswer .forceStop s t f forceStopRule) ∧
  (∀ (f : ConsoleFrame) (arr : Arrival) (s : State), Taken .clearFault s f arr →
    ∃ t, exec (.clearFault f arr) s = .next t ∧ ChannelsAnswer .clearFault s t f clearFaultRule) ∧
  (∀ (f : ConsoleFrame) (arr : Arrival) (s : State), Taken .setHoldMode s f arr →
    ∃ t, exec (.setHoldMode f arr) s = .next t ∧ ChannelsAnswer .setHoldMode s t f
      (setHoldModeRule (if f.arg = 0 then .pass else if f.arg = 1 then .freeze else .restart))) ∧
  ∀ (f : ConsoleFrame) (arr : Arrival) (s : State), Taken .nextStep s f arr →
    ∃ t, exec (.nextStep f arr) s = .next t ∧ ChannelsAnswer .nextStep s t f nextStepRule

/-- HOLD and RESUME set and clear the hold flag with a STATION entry where it changes, and NONE only leaves its record.
Time as clock ticks is the model's choice (log 2), and so is the taking of a frame whose check completes after walk start
(log 39). -/
def Obligations.HoldResumeAndNone : Prop :=
  (∀ (f : ConsoleFrame) (arr : Arrival) (s : State), Taken .hold s f arr →
    ∃ t, exec (.hold f arr) s = .next t ∧ ConsoleKeeps s t ∧ t.channels = s.channels ∧
      (f.channel.toNat ≤ 4 → t.console = ⟨true, recordFor .hold f .accepted⟩ ∧
        t.capture.station = if s.console.hold = true then s.capture.station
          else offer s.capture.station (.station s.tick (.holdOn f.console) s.timer.round)) ∧
      (4 < f.channel.toNat → t.console = ⟨s.console.hold, recordFor .hold f .refusedTarget⟩ ∧ t.capture = s.capture)) ∧
  (∀ (f : ConsoleFrame) (arr : Arrival) (s : State), Taken .resume s f arr →
    ∃ t, exec (.resume f arr) s = .next t ∧ ConsoleKeeps s t ∧ t.channels = s.channels ∧
      (f.channel.toNat ≤ 4 → t.console = ⟨false, recordFor .resume f .accepted⟩ ∧
        t.capture.station = if s.console.hold = true then
            offer s.capture.station (.station s.tick (.holdOff f.console) s.timer.round)
          else s.capture.station) ∧
      (4 < f.channel.toNat → t.console = ⟨s.console.hold, recordFor .resume f .refusedTarget⟩ ∧
        t.capture = s.capture)) ∧
  ∀ (f : ConsoleFrame) (arr : Arrival) (s : State), Taken .none s f arr →
    ∃ t, exec (.noCommand f arr) s = .next t ∧ ConsoleKeeps s t ∧ t.channels = s.channels ∧ t.capture = s.capture ∧
      t.console = ⟨s.console.hold, recordFor .none f (if f.channel.toNat ≤ 4 then .accepted else .refusedTarget)⟩

/-- ENTRY_WRITER_TAKE: the head of the first queue that is not empty is written, behind a GAP where skips are counted, or
skipped and counted where lockout holds or begins. That the writer is not idle while a FLUSH waits is the model's choice (log
16), and that a GAP entry's header carries channel 7 is its reading (log 43). -/
def Obligations.WriterTakesAnEntry : Prop :=
  (∀ s : State, s.port.deferred = false → nextQueue s.capture = none → exec .entryWriterTake s = .next s) ∧
  ∀ (s : State) (q : QueueName) (e : Entry), BufferInv s.buffer → s.port.deferred = false →
    nextQueue s.capture = some (q, e) →
    let gap := entryWords (gapEntry s.tick s.capture)
    let w := s.buffer.writePos
    let n := (entryWords e).length
    ∃ t, exec .entryWriterTake s = .next t ∧ PortFrame s t ∧ t.port = s.port ∧
      (s.buffer.lockout = true → t.buffer = s.buffer ∧ t.capture = countSkip q (popQueue q s.capture)) ∧
      (∀ h, openHalf s.buffer = some h → skipSum s.capture = 0 →
        (w + n ≤ 4096 →
          t.capture = popQueue q s.capture ∧
          t.buffer = { s.buffer with ram := t.buffer.ram, writePos := w + n } ∧
          Stored (baseOf h + w) (entryWords e) s.buffer.ram t.buffer.ram) ∧
        (4096 < w + n → halfState s.buffer (1 - h) = .free →
          t.capture = popQueue q s.capture ∧
          ∃ c, Closed h s.buffer c ∧ t.buffer = { c with ram := t.buffer.ram, writePos := n } ∧
            Stored (baseOf (1 - h)) (entryWords e) c.ram t.buffer.ram) ∧
        (4096 < w + n → halfState s.buffer (1 - h) ≠ .free →
          Closed h s.buffer t.buffer ∧ t.capture = countSkip q (popQueue q s.capture))) ∧
      (∀ h, openHalf s.buffer = some h → skipSum s.capture ≠ 0 →
        (w + 8 + n ≤ 4096 →
          t.capture = clearSkips (popQueue q s.capture) ∧
          t.buffer = { s.buffer with ram := t.buffer.ram, writePos := w + 8 + n } ∧
          Stored (baseOf h + w) (gap ++ entryWords e) s.buffer.ram t.buffer.ram) ∧
        (w + 8 ≤ 4096 → 4096 < w + 8 + n →
          ∃ b, b = { s.buffer with ram := b.ram, writePos := w + 8 } ∧
            Stored (baseOf h + w) gap s.buffer.ram b.ram ∧
            (halfState s.buffer (1 - h) = .free →
              t.capture = clearSkips (popQueue q s.capture) ∧
              ∃ c, Closed h b c ∧ t.buffer = { c with ram := t.buffer.ram, writePos := n } ∧
                Stored (baseOf (1 - h)) (entryWords e) c.ram t.buffer.ram) ∧
            (halfState s.buffer (1 - h) ≠ .free →
              Closed h b t.buffer ∧ t.capture = countSkip q (clearSkips (popQueue q s.capture)))) ∧
        (4096 < w + 8 → halfState s.buffer (1 - h) = .free →
          t.capture = clearSkips (popQueue q s.capture) ∧
          ∃ c, Closed h s.buffer c ∧ t.buffer = { c with ram := t.buffer.ram, writePos := 8 + n } ∧
            Stored (baseOf (1 - h)) (gap ++ entryWords e) c.ram t.buffer.ram) ∧
        (4096 < w + 8 → halfState s.buffer (1 - h) ≠ .free →
          Closed h s.buffer t.buffer ∧ t.capture = countSkip q (popQueue q s.capture)))

/-- STATUS is answered with OK and three data words of the moment, and changes nothing else. -/
def Obligations.StatusAnswers : Prop :=
  ∀ s : State, PortIdle s → ∃ (t : State) (w1 w2 w3 : Word),
    exec .status s = .next t ∧ PortFrame s t ∧ t.capture = s.capture ∧ t.buffer = s.buffer ∧
    t.port = answered [0, w1, w2, w3] ∧
    w1.toNat = (match s.loader.startup with | .loading => 0 | .ready => 1 | .profileFault => 2) +
      4 * (match s.buffer.half0 with | .free => 0 | .opened => 1 | .full => 2) +
      16 * (match s.buffer.half1 with | .free => 0 | .opened => 1 | .full => 2) +
      64 * (if s.buffer.lockout = true then 1 else 0) ∧
    (s.buffer.writePos ≤ 4096 → w2.toNat = if s.buffer.lockout = true then 0 else s.buffer.writePos) ∧
    w3.toNat = min (skipSum s.capture) 65535

/-- READ answers ERROR, or OK and the words of a FULL half, and READ_WORD sends the next of them. -/
def Obligations.ReadStreamsAFullHalf : Prop :=
  (∀ (h o n : Word) (s : State), PortIdle s →
    ∃ t, exec (.read [h, o, n]) s = .next t ∧ PortFrame s t ∧ t.capture = s.capture ∧ t.buffer = s.buffer ∧
      ((h.toNat ≤ 1 ∧ o.toNat ≤ 4095 ∧ 1 ≤ n.toNat ∧ n.toNat ≤ 4096 ∧ o.toNat + n.toNat ≤ 4096 ∧
          halfState s.buffer h.toNat = .full) →
        t.port = ⟨[], true, [0], some ⟨baseOf h.toNat + o.toNat, n.toNat⟩, false⟩) ∧
      (¬ (h.toNat ≤ 1 ∧ o.toNat ≤ 4095 ∧ 1 ≤ n.toNat ∧ n.toNat ≤ 4096 ∧ o.toNat + n.toNat ≤ 4096 ∧
          halfState s.buffer h.toNat = .full) →
        t.port = answered [0xFFFF])) ∧
  (∀ (a l : Nat) (s : State), s.port.stream = some ⟨a, l⟩ → a < 8192 →
    ∃ t, exec .readWord s = .next t ∧ PortFrame s t ∧ t.capture = s.capture ∧ t.buffer = s.buffer ∧
      t.port = { s.port with
        answer := s.port.answer ++ [ramRead a s.buffer.ram],
        stream := if l ≤ 1 then none else some ⟨a + 1, l - 1⟩ }) ∧
  ∀ (a l : Nat) (s : State), s.port.stream = some ⟨a, l⟩ → 8192 ≤ a → exec .readWord s = .fault .ramAddress

/-- RELEASE frees a FULL half, or opens it with a GAP at its start where lockout holds, and refuses every other half; FLUSH
and DEFERRED_FLUSH close the OPEN half early, and FLUSH waits for an entry being written. That the GAP is written in the event
of the RELEASE is the model's reading (log 18), and that the operand says whether an entry is being written its choice (log
16). That the GAP entry's header carries channel 7 is its reading (log 43). -/
def Obligations.ReleaseAndFlush : Prop :=
  (∀ (h : Word) (s : State), PortIdle s → BufferInv s.buffer →
    ∃ t, exec (.release [h]) s = .next t ∧ PortFrame s t ∧
      (¬ (h.toNat ≤ 1 ∧ halfState s.buffer h.toNat = .full) →
        t.buffer = s.buffer ∧ t.capture = s.capture ∧ t.port = answered [1]) ∧
      ((h.toNat ≤ 1 ∧ halfState s.buffer h.toNat = .full) → t.port = answered [0] ∧
        halfState t.buffer (1 - h.toNat) = halfState s.buffer (1 - h.toNat) ∧
        t.buffer.ready = decide (halfState s.buffer (1 - h.toNat) = .full) ∧ t.buffer.lockout = false ∧
        (s.buffer.lockout = false → halfState t.buffer h.toNat = .free ∧ t.buffer.ram = s.buffer.ram ∧
          t.buffer.writePos = s.buffer.writePos ∧ t.capture = s.capture) ∧
        (s.buffer.lockout = true → halfState t.buffer h.toNat = .opened ∧ t.buffer.writePos = 8 ∧
          Stored (baseOf h.toNat) (entryWords (.gap s.tick (s.capture.channels.get 0).skips
            (s.capture.channels.get 1).skips (s.capture.channels.get 2).skips (s.capture.channels.get 3).skips
            s.capture.station.skips)) s.buffer.ram t.buffer.ram ∧
          t.capture = clearSkips s.capture))) ∧
  (∀ s : State, BufferInv s.buffer → PortIdle s →
    ∃ t, exec (.flush false) s = .next t ∧ FlushAnswer s t) ∧
  (∀ s : State, PortIdle s →
    exec (.flush true) s = .next (s.setPort { s.port with partialWords := [], deferred := true })) ∧
  ∀ s : State, BufferInv s.buffer → s.port.deferred = true →
    ∃ t, exec .deferredFlush s = .next t ∧ FlushAnswer s t

/-- An unknown command word is answered ERROR, a late word discards its command, and words during an answer are discarded.
That words are discarded from the completion of a command to the end of its answer is the model's reading (log 17). -/
def Obligations.PortWordsAndTimeouts : Prop :=
  (∀ (w : Word) (s : State), PortIdle s → ¬ (w = 1 ∨ w = 2 ∨ w = 3 ∨ w = 4) →
    exec (.unknownCommandWord w) s = .next (s.setPort (answered [0xFFFF]))) ∧
  (∀ s : State, exec .commandTimeout s = .next (s.setPort { s.port with partialWords := [] })) ∧
  (∀ s : State, s.port.answering = true → s.port.stream = none →
    exec .answerLastByteSent s = .next (s.setPort { s.port with answering := false })) ∧
  (∀ (ws : List Word) (s : State), PortIdle s → ws.length < 3 →
    exec (.read ws) s = .next (s.setPort { s.port with partialWords := 2 :: ws })) ∧
  (∀ s : State, PortIdle s → exec (.release []) s = .next (s.setPort { s.port with partialWords := [3] })) ∧
  (∀ s : State, s.port.answering = false → s.port.deferred = false → s.port.partialWords = [2] →
    exec .status s = .next (s.setPort { s.port with partialWords := [2, 1] })) ∧
  ∀ (ws : List Word) (w : Word) (b : Bool) (s : State), (s.port.answering = true ∨ s.port.deferred = true) →
    exec .status s = .next s ∧ exec (.read ws) s = .next s ∧ exec (.release ws) s = .next s ∧
    exec (.flush b) s = .next s ∧ exec (.unknownCommandWord w) s = .next s

/-- Every invariant of the model holds right after reset. -/
def Obligations.InvariantsHoldAtReset : Prop :=
  Inv State.reset

/-- Every step keeps the result buffer, the entry queues and the heard table in order. -/
def Obligations.BuffersKeptByEveryStep : Prop :=
  ∀ s t : State, step s = .next t →
    (BufferInv s.buffer → BufferInv t.buffer) ∧ (CaptureInv s.capture → CaptureInv t.capture) ∧
    (HeardInv s.heard → HeardInv t.heard)

/-- Every step keeps the lock unit, membership and the line consistent: a pacer is LOCKED, and only permitted frames stay
uncut. -/
def Obligations.LinkKeptByEveryStep : Prop :=
  ∀ s t : State, LinkInv s → step s = .next t → LinkInv t

/-- Every step keeps each channel safe: the converter runs only through a closed contactor and a stopped channel commands
nothing. -/
def Obligations.ChannelsKeptByEveryStep : Prop :=
  ∀ s t : State, ChannelsInv s → step s = .next t → ChannelsInv t

/-- In RUNNING, HELD and STOPPING a period bounds the base target by band and grant, and ramps the cut setpoint toward the
limited target; a RUNNING step gives the base target of its kind, and the CV target follows the pack voltage. -/
def Obligations.TargetsAndSetpoint : Prop :=
  (∀ (inp : PeriodInput) (s : State) (k : Fin 4), Works s k →
    ∃ t, exec (.controlPeriod inp) s = .next t ∧
      let c := t.channels.get k
      let b := c.regulator.base
      let l := limitsAfter s inp k
      let g := s.walk.grants.get k
      let q := s.loader.settings.q
      let v := (inp.channels.get k).v
      let ig : Int := (g.natAbs * q * 10000 / max v.toNat 1 : Nat)
      (c.state ∈ ([.held, .stopping] : List ChannelState) → b = 0) ∧
      (c.state ∈ ([.running, .held, .stopping] : List ChannelState) →
        (0 < b → 0 < g → c.regulator.limited = min (min b l.chgMax) ig) ∧
        (b < 0 → g < 0 → c.regulator.limited = max (max b (-(l.disMax : Int))) (-ig)) ∧
        (¬ (0 < b ∧ 0 < g) → ¬ (b < 0 ∧ g < 0) → c.regulator.limited = 0) ∧
        c.setpoint = rampSetpoint (s.loader.settings.channels.get k).ramp (s.channels.get k).setpoint
          (cutSetpoint (envelopeTop l q g v) (envelopeBottom l q g v) (s.channels.get k).setpoint)
          c.regulator.limited ∧
        (c.regulator.limitedFlag = true ↔
          c.regulator.limited.natAbs < b.natAbs ∨ c.setpoint ≠ c.regulator.limited)) ∧
      (c.state ∉ ([.running, .held, .stopping] : List ChannelState) →
        c.setpoint = 0 ∧ b = 0 ∧ c.regulator.limited = 0 ∧ c.regulator.limitedFlag = false)) ∧
  ∀ (inp : PeriodInput) (s : State) (k : Fin 4) (st : Step), RunsOn s inp k → StepGoesOn s inp k →
    stepNow s k = some st →
    ∃ t, exec (.controlPeriod inp) s = .next t ∧
      (∀ vCv iSet, st.kind = .chargeCV vCv iSet →
        (vCv < (inp.channels.get k).v.toNat → (t.channels.get k).regulator.cv =
          (s.channels.get k).regulator.cv - (s.loader.settings.channels.get k).cvStep) ∧
        ((inp.channels.get k).v.toNat + 2 < vCv → (t.channels.get k).regulator.cv =
          min ((s.channels.get k).regulator.cv + (s.loader.settings.channels.get k).cvStep) iSet) ∧
        ((inp.channels.get k).v.toNat ≤ vCv → vCv ≤ (inp.channels.get k).v.toNat + 2 →
          (t.channels.get k).regulator.cv = (s.channels.get k).regulator.cv) ∧
        (t.channels.get k).regulator.base = (t.channels.get k).regulator.cv) ∧
      ((∀ vCv iSet, st.kind ≠ .chargeCV vCv iSet) →
        (t.channels.get k).regulator.cv = (s.channels.get k).regulator.cv) ∧
      (∀ i, st.kind = .chargeCC i → (t.channels.get k).regulator.base = i) ∧
      (∀ i, st.kind = .dischargeCC i → (t.channels.get k).regulator.base = -(i : Int)) ∧
      (∀ p, st.kind = .dischargeCP p → (t.channels.get k).regulator.base =
        -((min 30000 (p * 10000 / max (inp.channels.get k).v.toNat 1) : Nat) : Int)) ∧
      (st.kind = .rest → (t.channels.get k).regulator.base = 0)

/-- A RUNNING PULSE step loads its pairs at frame position 0 and takes amplitude, then base, as its target; in a RUNNING step
of another kind the pairs stay. -/
def Obligations.PulsePairsMakeTheTarget : Prop :=
  ∀ (inp : PeriodInput) (s : State) (k : Fin 4) (st : Step), RunsOn s inp k → StepGoesOn s inp k →
    stepNow s k = some st →
    ∃ t, exec (.controlPeriod inp) s = .next t ∧
      (∀ a b n, st.kind = .pulse a b n →
        ((t.channels.get k).live, (t.channels.get k).staged, (t.channels.get k).regulator.base) =
          pulsePeriod s.framePos (s.channels.get k).live (s.channels.get k).staged) ∧
      ((∀ a b n, st.kind ≠ .pulse a b n) →
        (t.channels.get k).live = (s.channels.get k).live ∧ (t.channels.get k).staged = (s.channels.get k).staged)
end

