-- ==== Sys2Proof/Laws/Counts.lean ====
section
/-! SUPPORT. What the counts, the filters and the regulator's small functions can answer. -/

namespace Sys2Proof.Machine

/-- A saturating count stays at or below its top when it starts there. -/
theorem satInc_le (n top : Nat) : satInc n top ≤ top := by
  unfold satInc; split <;> omega

/-- A saturating count rises by one below its top. -/
theorem satInc_below {n top : Nat} (h : n < top) : satInc n top = n + 1 := by
  unfold satInc; rw [if_pos h]

/-- A saturating count stays at its top. -/
theorem satInc_at (top : Nat) : satInc top top = top := by
  unfold satInc; rw [if_neg (Nat.lt_irrefl _)]

theorem satAdd_le (a b top : Nat) : satAdd a b top ≤ top := Nat.min_le_right _ _

/-- A sample at the filtered level clears the run count (R78). -/
theorem filterSample_same (f : Filter) : filterSample f f.level = { f with run := 0 } := by
  simp [filterSample]

/-- A differing sample that is not the third raises the run count (R78). -/
theorem filterSample_early {f : Filter} {b : Bool} (h : b ≠ f.level) (hr : f.run + 1 < 3) :
    filterSample f b = { f with run := f.run + 1 } := by
  unfold filterSample
  rw [if_neg h, if_neg (by simp only [Config.filterLimit]; omega)]

/-- The third differing sample changes the level (R78). -/
theorem filterSample_third {f : Filter} {b : Bool} (h : b ≠ f.level) (hr : 3 ≤ f.run + 1) :
    filterSample f b = ⟨b, 0⟩ := by
  unfold filterSample
  rw [if_neg h, if_pos (by simpa only [Config.filterLimit] using hr)]

/-- A filter's run count stays below 3. -/
theorem filterSample_run (f : Filter) (b : Bool) : (filterSample f b).run < 3 := by
  unfold filterSample Config.filterLimit
  by_cases h : b = f.level
  · rw [if_pos h]; exact (by decide : 0 < 3)
  · by_cases hr : 3 ≤ f.run + 1
    · rw [if_neg h, if_pos hr]; exact (by decide : 0 < 3)
    · rw [if_neg h, if_neg hr]; show f.run + 1 < 3; omega

/-! ### The ramp and the cut (R105, R106) -/

/-- A move toward a goal stays between the start and the goal. -/
theorem moveToward_between (r : Nat) (c goal : Int) :
    min c goal ≤ moveToward r c goal ∧ moveToward r c goal ≤ max c goal := by
  unfold moveToward; split <;> omega

/-- A move is by at most its rate. -/
theorem moveToward_rate (r : Nat) (c goal : Int) : (moveToward r c goal - c).natAbs ≤ r := by
  unfold moveToward; split <;> omega

/-- The ramped setpoint stays in every range that holds 0, the cut setpoint and the limited target. -/
theorem rampSetpoint_within (r : Nat) (s c t lo hi : Int) (h0 : lo ≤ 0 ∧ 0 ≤ hi) (hc : lo ≤ c ∧ c ≤ hi)
    (ht : lo ≤ t ∧ t ≤ hi) : lo ≤ rampSetpoint r s c t ∧ rampSetpoint r s c t ≤ hi := by
  have m0 := moveToward_between r c 0
  have mt := moveToward_between r c t
  unfold rampSetpoint
  split
  · exact ht
  · split
    · exact h0
    · split <;> omega

/-- The cut setpoint lies in an envelope that contains 0. -/
theorem cutSetpoint_within (top bottom s : Int) (h : bottom ≤ 0 ∧ 0 ≤ top) :
    bottom ≤ cutSetpoint top bottom s ∧ cutSetpoint top bottom s ≤ top := by
  unfold cutSetpoint
  split
  · omega
  · split <;> omega

/-- The envelope contains 0. -/
theorem envelope_zero (l : Limits) (q : Nat) (g : Int) (v : Word) :
    envelopeBottom l q g v ≤ 0 ∧ 0 ≤ envelopeTop l q g v := by
  unfold envelopeBottom envelopeTop
  constructor <;> split <;> omega

end Sys2Proof.Machine
end

