-- ==== Sys2Proof/Laws/Ram.lean ====
section
/-! SUPPORT. The result RAM: every operation keeps the canonical form, and what each of them makes a read answer. -/

namespace Sys2Proof.Machine

/-! ### The canonical form taken apart -/

/-- The canonical form of a list with a first cell. -/
theorem Memory.wf_cons (c : RamCell) (r : List RamCell) :
    Memory.wf (c :: r) = true ↔
      c.1 < Config.ramWords ∧ c.2 ≠ ramBlank ∧ (∀ d ∈ r, c.1 < d.1) ∧ Memory.wf r = true := by
  simp [Memory.wf, and_assoc]

/-- Every listed address of a RAM in canonical form lies in it. -/
theorem Memory.wf_lt {ram : List RamCell} (h : Memory.wf ram = true) : ∀ c ∈ ram, c.1 < Config.ramWords := by
  induction ram with
  | nil => intro c hc; cases hc
  | cons d r ih =>
    have hd := (Memory.wf_cons d r).1 h
    intro c hc
    rcases List.mem_cons.1 hc with rfl | hr
    · exact hd.1
    · exact ih hd.2.2.2 c hr

/-! ### One word -/

/-- The cells after a write are the word written or cells there were. -/
theorem ramPut_mem (a : Nat) (w : Word) (ram : List RamCell) :
    ∀ c ∈ ramPut a w ram, c = (a, w) ∨ c ∈ ram := by
  induction ram with
  | nil =>
    intro c hc
    unfold ramPut at hc
    split at hc
    · cases hc
    · exact Or.inl (List.mem_singleton.1 hc)
  | cons d r ih =>
    intro c hc
    unfold ramPut at hc
    split at hc
    · split at hc
      · exact Or.inr hc
      · exact (List.mem_cons.1 hc).imp id id
    · split at hc
      · split at hc
        · exact Or.inr (List.mem_cons_of_mem _ hc)
        · exact (List.mem_cons.1 hc).imp id (List.mem_cons_of_mem _)
      · rcases List.mem_cons.1 hc with rfl | hr
        · exact Or.inr (List.mem_cons_self ..)
        · exact (ih c hr).imp id (List.mem_cons_of_mem _)

/-- A write inside the RAM keeps the canonical form. -/
theorem ramPut_wf (a : Nat) (w : Word) (ram : List RamCell) (ha : a < Config.ramWords)
    (h : Memory.wf ram = true) : Memory.wf (ramPut a w ram) = true := by
  induction ram with
  | nil =>
    unfold ramPut
    split
    · exact h
    · rename_i hw
      exact (Memory.wf_cons _ _).2 ⟨ha, hw, fun d hd => absurd hd (by simp), rfl⟩
  | cons d r ih =>
    have hd := (Memory.wf_cons d r).1 h
    unfold ramPut
    split
    · rename_i hlt
      split
      · exact h
      · rename_i hw
        refine (Memory.wf_cons _ _).2 ⟨ha, hw, ?_, h⟩
        intro e he
        rcases List.mem_cons.1 he with rfl | hr
        · exact hlt
        · exact lt_trans hlt (hd.2.2.1 e hr)
    · rename_i hlt
      split
      · rename_i heq
        split
        · exact hd.2.2.2
        · rename_i hw
          exact (Memory.wf_cons _ _).2 ⟨ha, hw, fun e he => heq ▸ hd.2.2.1 e he, hd.2.2.2⟩
      · rename_i hne
        refine (Memory.wf_cons _ _).2 ⟨hd.1, hd.2.1, ?_, ih hd.2.2.2⟩
        intro e he
        rcases ramPut_mem a w r e he with rfl | hr
        · show d.1 < a
          omega
        · exact hd.2.2.1 e hr

/-- An address below every listed one reads blank. -/
theorem ramRead_below {a : Nat} {ram : List RamCell} (h : ∀ d ∈ ram, a < d.1) : ramRead a ram = ramBlank := by
  induction ram with
  | nil => rfl
  | cons d r ih =>
    have hd : a < d.1 := h d (List.mem_cons_self ..)
    unfold ramRead
    rw [if_neg (by omega)]
    exact ih fun e he => h e (List.mem_cons_of_mem _ he)

/-- What a read answers after one word is written. -/
theorem ramRead_put (a b : Nat) (w : Word) (ram : List RamCell) (h : Memory.wf ram = true) :
    ramRead b (ramPut a w ram) = if b = a then w else ramRead b ram := by
  induction ram with
  | nil =>
    unfold ramPut
    by_cases hw : w = ramBlank
    · rw [if_pos hw]; unfold ramRead; split <;> simp_all
    · rw [if_neg hw]
      by_cases hb : b = a
      · simp [ramRead, hb]
      · simp [ramRead, hb, Ne.symm hb]
  | cons d r ih =>
    have hd := (Memory.wf_cons d r).1 h
    unfold ramPut
    split
    · rename_i hlt
      by_cases hw : w = ramBlank
      · rw [if_pos hw]
        by_cases hb : b = a
        · rw [if_pos hb, hb, hw]
          apply ramRead_below
          intro e he
          rcases List.mem_cons.1 he with rfl | hr
          · exact hlt
          · exact lt_trans hlt (hd.2.2.1 e hr)
        · rw [if_neg hb]
      · rw [if_neg hw]
        by_cases hb : b = a
        · simp [ramRead, hb]
        · rw [if_neg hb, ramRead, if_neg (Ne.symm hb)]
    · rename_i hlt
      split
      · rename_i heq
        by_cases hw : w = ramBlank
        · rw [if_pos hw]
          by_cases hb : b = a
          · rw [if_pos hb, hb, hw]
            exact ramRead_below fun e he => heq ▸ hd.2.2.1 e he
          · rw [if_neg hb, ramRead, if_neg (by omega)]
        · rw [if_neg hw]
          by_cases hb : b = a
          · simp [ramRead, hb]
          · rw [if_neg hb, ramRead, ramRead, if_neg (by omega), if_neg (by omega)]
      · rename_i hne
        rw [ramRead, ih hd.2.2.2, ramRead]
        by_cases hb : b = a
        · rw [if_pos hb, if_pos hb, if_neg (by omega)]
        · rw [if_neg hb, if_neg hb]

/-! ### Words in a row -/

/-- Words written inside the RAM keep the canonical form. -/
theorem ramWrite_wf (a : Nat) (ws : List Word) (ram : List RamCell) (ha : a + ws.length ≤ Config.ramWords)
    (h : Memory.wf ram = true) : Memory.wf (ramWrite a ws ram) = true := by
  induction ws generalizing a ram with
  | nil => exact h
  | cons w ws ih =>
    have hl : a + (ws.length + 1) ≤ Config.ramWords := by simpa using ha
    exact ih (a + 1) (ramPut a w ram) (by omega) (ramPut_wf a w ram (by omega) h)

/-- What a read answers after words are written from `a` on: the word written there, else what it answered before. -/
theorem ramRead_write (a b : Nat) (ws : List Word) (ram : List RamCell) (ha : a + ws.length ≤ Config.ramWords)
    (h : Memory.wf ram = true) :
    ramRead b (ramWrite a ws ram) =
      if a ≤ b ∧ b < a + ws.length then (ws[b - a]?).getD ramBlank else ramRead b ram := by
  induction ws generalizing a ram with
  | nil => rw [if_neg (by simp)]; rfl
  | cons w ws ih =>
    have hl : a + (ws.length + 1) ≤ Config.ramWords := by simpa using ha
    rw [ramWrite, ih (a + 1) (ramPut a w ram) (by omega) (ramPut_wf a w ram (by omega) h),
      ramRead_put a b w ram h]
    by_cases hb : b = a
    · subst hb
      rw [if_neg (by omega), if_pos rfl, if_pos (by simp)]
      simp
    · by_cases hin : a + 1 ≤ b ∧ b < a + 1 + ws.length
      · rw [if_pos hin, if_pos (by simp only [List.length_cons]; omega)]
        have : b - a = (b - (a + 1)) + 1 := by omega
        rw [this, List.getElem?_cons_succ]
      · rw [if_neg hin, if_neg hb, if_neg (by simp only [List.length_cons]; omega)]

/-! ### FILL words -/

/-- Filling keeps the canonical form. -/
theorem ramFill_wf (lo hi : Nat) (ram : List RamCell) (h : Memory.wf ram = true) :
    Memory.wf (ramFill lo hi ram) = true := by
  induction ram with
  | nil => exact h
  | cons d r ih =>
    have hd := (Memory.wf_cons d r).1 h
    unfold ramFill at ih ⊢
    rw [List.filter_cons]
    split
    · refine (Memory.wf_cons _ _).2 ⟨hd.1, hd.2.1, ?_, ih hd.2.2.2⟩
      intro e he
      exact hd.2.2.1 e (List.mem_filter.1 he).1
    · exact ih hd.2.2.2

/-- What a read answers after words are made FILL words. -/
theorem ramRead_fill (lo hi b : Nat) (ram : List RamCell) :
    ramRead b (ramFill lo hi ram) = if lo ≤ b ∧ b < hi then ramBlank else ramRead b ram := by
  induction ram with
  | nil => simp [ramFill, ramRead]
  | cons d r ih =>
    unfold ramFill at ih ⊢
    rw [List.filter_cons]
    by_cases hk : d.1 < lo ∨ hi ≤ d.1
    · rw [if_pos (by simpa using hk), ramRead, ramRead, ih]
      by_cases hb : d.1 = b
      · rw [if_pos hb, if_pos hb, if_neg (by omega)]
      · rw [if_neg hb, if_neg hb]
    · rw [if_neg (by simpa using hk), ih]
      by_cases hin : lo ≤ b ∧ b < hi
      · rw [if_pos hin, if_pos hin]
      · rw [if_neg hin, if_neg hin, ramRead, if_neg (by omega)]

end Sys2Proof.Machine
end

