-- ==== Sys2Proof/Laws/Buffer.lean ====
section
/-! SUPPORT. The two halves and the entry writer: what placing words does, and that it keeps the buffer's invariant (R158 to
R160). -/

namespace Sys2Proof.Machine

/-! ### The OPEN half -/

/-- The OPEN half is half 0 or half 1. -/
theorem openHalf_le {b : Buffer} {h : Nat} (ho : openHalf b = some h) : h ≤ 1 := by
  unfold openHalf at ho
  split at ho
  · cases ho; exact Nat.zero_le _
  · split at ho
    · cases ho; exact Nat.le_refl _
    · cases ho

/-- The half that openHalf names is OPEN. -/
theorem openHalf_state {b : Buffer} {h : Nat} (ho : openHalf b = some h) : halfState b h = .opened := by
  unfold openHalf at ho
  split at ho
  · cases ho; simpa [halfState]
  · split at ho
    · cases ho; simpa [halfState]
    · cases ho

/-- There is no OPEN half exactly when neither is OPEN. -/
theorem openHalf_none (b : Buffer) : openHalf b = none ↔ b.half0 ≠ .opened ∧ b.half1 ≠ .opened := by
  unfold openHalf
  by_cases h0 : b.half0 = .opened <;> by_cases h1 : b.half1 = .opened <;> simp [h0, h1]

/-! ### Entry lengths (section 11.5) -/

/-- No entry is longer than 13 words. -/
theorem entryWords_length (e : Entry) : 5 ≤ (entryWords e).length ∧ (entryWords e).length ≤ 13 := by
  cases e <;> simp [entryWords, tickWords, words2]

/-- A GAP entry is 8 words long (R160). -/
theorem gapWords_length (t : BitVec 32) (c : Capture) : (entryWords (gapEntry t c)).length = 8 := rfl

/-! ### Writing behind the write position -/

/-- Words that fit keep the invariant. -/
theorem putWords_inv {h : Nat} {ws : List Word} {b : Buffer} (hb : BufferInv b) (ho : openHalf b = some h)
    (hf : b.writePos + ws.length ≤ Config.halfWords) : BufferInv (putWords h ws b) := by
  have hlock : b.lockout = false := by
    rcases Bool.eq_false_or_eq_true b.lockout with hl | hl
    · have := (openHalf_none b).2 (hb.2.2.1.1 hl)
      rw [this] at ho; cases ho
    · exact hl
  have hle := openHalf_le ho
  refine ⟨?_, hb.2.1, hb.2.2.1, hf, ?_, hb.2.2.2.2.2⟩
  · apply ramWrite_wf _ _ _ _ hb.1
    unfold halfBase
    simp only [Config.halfWords, Config.ramWords] at hf ⊢
    omega
  · intro hl
    exact absurd hl (by rw [show (putWords h ws b).lockout = b.lockout from rfl, hlock]; decide)

/-! ### Closing a half -/

/-- Closing the OPEN half keeps the invariant (R158, R159). -/
theorem closeHalf_inv {h : Nat} {b : Buffer} (hb : BufferInv b) (ho : openHalf b = some h) :
    BufferInv (closeHalf h b) := by
  obtain ⟨ram, h0, h1, pos, lock, rdy⟩ := b
  obtain ⟨hwf, hone, hlk, hpos, hzero, hrdy⟩ := hb
  simp only at *
  have hle := openHalf_le ho
  have hop := openHalf_state ho
  have hf := ramFill_wf (halfBase h + pos) (halfBase h + Config.halfWords) ram hwf
  have hcase : h = 0 ∨ h = 1 := by omega
  rcases hcase with rfl | rfl
  · have e0 : h0 = .opened := by simpa [halfState] using hop
    subst e0
    have hl : lock = false := by
      rcases Bool.eq_false_or_eq_true lock with hl | hl
      · exact absurd rfl (hlk.1 hl).1
      · exact hl
    subst hl
    cases h1 with
    | opened => exact absurd ⟨rfl, rfl⟩ hone
    | free => simp [BufferInv, closeHalf, setHalf, halfState, readyLevel, hf]
    | full => simp [BufferInv, closeHalf, setHalf, halfState, readyLevel, hf]
  · have e1 : h1 = .opened := by simpa [halfState] using hop
    subst e1
    have hl : lock = false := by
      rcases Bool.eq_false_or_eq_true lock with hl | hl
      · exact absurd rfl (hlk.1 hl).2
      · exact hl
    subst hl
    cases h0 with
    | opened => exact absurd ⟨rfl, rfl⟩ hone
    | free => simp [BufferInv, closeHalf, setHalf, halfState, readyLevel, hf]
    | full => simp [BufferInv, closeHalf, setHalf, halfState, readyLevel, hf]

/-- The half that opens at a closing starts at write position 0. -/
theorem closeHalf_writePos (h : Nat) (b : Buffer) : (closeHalf h b).writePos = 0 := by
  unfold closeHalf setHalf
  dsimp only
  repeat' split
  all_goals rfl

/-! ### Placing words -/

/-- Placing at most 13 words keeps the invariant. -/
theorem place_inv {ws : List Word} {b : Buffer} (hb : BufferInv b) (hl : ws.length ≤ 13) : BufferInv (place ws b).1 := by
  unfold place
  split
  · exact hb
  · rename_i h ho
    split
    · rename_i hf
      have hf' : ws.length ≤ Config.halfWords - b.writePos := by simpa [fits] using hf
      exact putWords_inv hb ho (by have := hb.2.2.2.1; omega)
    · have hc := closeHalf_inv hb ho
      dsimp only
      split
      · rename_i h' ho'
        refine putWords_inv hc ho' ?_
        rw [closeHalf_writePos]
        simp only [Config.halfWords]
        omega
      · exact hc

/-- Words that fit into the OPEN half are written behind the write position (R158). -/
theorem place_fits {ws : List Word} {b : Buffer} {h : Nat} (ho : openHalf b = some h)
    (hf : ws.length ≤ Config.halfWords - b.writePos) : place ws b = (putWords h ws b, true) := by
  unfold place
  rw [ho]
  simp [fits, hf]

/-- In lockout nothing is written (R159). -/
theorem place_lockout {ws : List Word} {b : Buffer} (ho : openHalf b = none) : place ws b = (b, false) := by
  unfold place
  rw [ho]

end Sys2Proof.Machine
end

