-- ==== Sys2Proof/Laws/Frames.lean ====
section
/-! SUPPORT. Bytes of words and of frames: taking a word apart and putting it together, and that a frame with its CRC passes
the check (R4, R171). -/

namespace Sys2Proof.Machine

/-- A word is its two bytes. -/
@[simp] theorem word2_bytes (w : Word) : word2 (hiByte w) (loByte w) = w := by
  apply BitVec.eq_of_getLsbD_eq
  intro i hi
  refine (BitVec.getLsbD_append (x := hiByte w) (y := loByte w) (i := i)).trans ?_
  unfold hiByte loByte
  by_cases h : i < 8
  · simp [h]
  · simp [h, show i - 8 < 8 by omega, show 8 + (i - 8) = i by omega]

/-- The upper half of a joined pair of 4-bit fields. -/
theorem nibble_hi (c st : BitVec 4) : (c ++ st : Byte).extractLsb' 4 4 = c := by
  apply BitVec.eq_of_getLsbD_eq
  intro i hi
  rw [BitVec.getLsbD_extractLsb']
  rw [show (c ++ st : Byte).getLsbD (4 + i) = c.getLsbD i from
    (BitVec.getLsbD_append (x := c) (y := st) (i := 4 + i)).trans (by simp)]
  simp [hi]

/-- The lower half of a joined pair of 4-bit fields. -/
theorem nibble_lo (c st : BitVec 4) : (c ++ st : Byte).extractLsb' 0 4 = st := by
  apply BitVec.eq_of_getLsbD_eq
  intro i hi
  rw [BitVec.getLsbD_extractLsb']
  rw [show (c ++ st : Byte).getLsbD (0 + i) = st.getLsbD i from
    (BitVec.getLsbD_append (x := c) (y := st) (i := 0 + i)).trans (by simp [hi])]
  simp [hi]

/-- A channel block is its three bytes. -/
@[simp] theorem blockOf_bytes (b : ShareBlock) :
    blockOf (hiByte b.demand) (loByte b.demand) (b.cls ++ b.state) = b := by
  obtain ⟨d, c, st⟩ := b
  unfold blockOf
  rw [word2_bytes, nibble_hi, nibble_lo]

/-- A heard map is its six bytes. -/
@[simp] theorem map_bytes (m : BitVec 48) :
    mapByte m 5 ++ mapByte m 4 ++ mapByte m 3 ++ mapByte m 2 ++ mapByte m 1 ++ mapByte m 0 = m := by
  apply BitVec.eq_of_getLsbD_eq
  intro i hi
  refine (BitVec.getLsbD_append (y := mapByte m 0) (i := i)).trans ?_
  rw [BitVec.getLsbD_append (y := mapByte m 1), BitVec.getLsbD_append (y := mapByte m 2),
    BitVec.getLsbD_append (y := mapByte m 3), BitVec.getLsbD_append (y := mapByte m 4)]
  unfold mapByte
  simp only [BitVec.getLsbD_extractLsb']
  have hw : i < 48 := hi
  by_cases h0 : i < 8
  · simp [h0]
  by_cases h1 : i - 8 < 8
  · simp [h0, h1, show 8 + (i - 8) = i by omega]
  by_cases h2 : i - 8 - 8 < 8
  · simp [h0, h1, h2, show 16 + (i - 8 - 8) = i by omega]
  by_cases h3 : i - 8 - 8 - 8 < 8
  · simp [h0, h1, h2, h3, show 24 + (i - 8 - 8 - 8) = i by omega]
  by_cases h4 : i - 8 - 8 - 8 - 8 < 8
  · simp [h0, h1, h2, h3, h4, show 32 + (i - 8 - 8 - 8 - 8) = i by omega]
  · simp [h0, h1, h2, h3, h4, show i - 8 - 8 - 8 - 8 - 8 < 8 by omega,
      show 40 + (i - 8 - 8 - 8 - 8 - 8) = i by omega]

/-- A body with its CRC is two bytes longer. -/
@[simp] theorem withCrc_length (bytes : List Byte) : (withCrc bytes).length = bytes.length + 2 := by
  simp [withCrc]

/-- Bytes of a known kind and of its length pass the check when they end with their CRC (R4). -/
theorem frameChecks_withCrc (k : Byte) (rest : List Byte) (h : kindLength k = some (rest.length + 3)) :
    frameChecks (withCrc (k :: rest)) = true := by
  have hl : (withCrc (k :: rest)).length = rest.length + 3 := by simp
  have ht : (withCrc (k :: rest)).take (rest.length + 1) = k :: rest := by
    unfold withCrc
    rw [List.take_append_of_le_length (by simp)]
    simp
  have hd : (withCrc (k :: rest)).drop (rest.length + 1) = [hiByte (crc16 (k :: rest)), loByte (crc16 (k :: rest))] := by
    unfold withCrc
    rw [List.drop_append_of_le_length (by simp)]
    simp
  have hc : withCrc (k :: rest) = k :: (rest ++ [hiByte (crc16 (k :: rest)), loByte (crc16 (k :: rest))]) := rfl
  unfold frameChecks
  rw [hc]
  simp only [h]
  rw [← hc, show rest.length + 3 - 2 = rest.length + 1 by omega, hl, ht, hd]
  simp

end Sys2Proof.Machine
end

