-- ==== Sys2Proof/Laws/State.lean ====
section
/-! SUPPORT. One lemma per field per update of the state, each true by rfl. -/

namespace Sys2Proof.Machine


/-! ### `setPending` -/

@[simp] theorem State.setPending_pending (s : State) (x : List Instr) : (s.setPending x).pending = x := rfl
@[simp] theorem State.setPending_draws (s : State) (x : List Instr) : (s.setPending x).draws = s.draws := rfl
@[simp] theorem State.setPending_loader (s : State) (x : List Instr) : (s.setPending x).loader = s.loader := rfl
@[simp] theorem State.setPending_tick (s : State) (x : List Instr) : (s.setPending x).tick = s.tick := rfl
@[simp] theorem State.setPending_timer (s : State) (x : List Instr) : (s.setPending x).timer = s.timer := rfl
@[simp] theorem State.setPending_link (s : State) (x : List Instr) : (s.setPending x).link = s.link := rfl
@[simp] theorem State.setPending_lock (s : State) (x : List Instr) : (s.setPending x).lock = s.lock := rfl
@[simp] theorem State.setPending_heard (s : State) (x : List Instr) : (s.setPending x).heard = s.heard := rfl
@[simp] theorem State.setPending_walk (s : State) (x : List Instr) : (s.setPending x).walk = s.walk := rfl
@[simp] theorem State.setPending_member (s : State) (x : List Instr) : (s.setPending x).member = s.member := rfl
@[simp] theorem State.setPending_channels (s : State) (x : List Instr) : (s.setPending x).channels = s.channels := rfl
@[simp] theorem State.setPending_framePos (s : State) (x : List Instr) : (s.setPending x).framePos = s.framePos := rfl
@[simp] theorem State.setPending_stopLine (s : State) (x : List Instr) : (s.setPending x).stopLine = s.stopLine := rfl
@[simp] theorem State.setPending_console (s : State) (x : List Instr) : (s.setPending x).console = s.console := rfl
@[simp] theorem State.setPending_capture (s : State) (x : List Instr) : (s.setPending x).capture = s.capture := rfl
@[simp] theorem State.setPending_buffer (s : State) (x : List Instr) : (s.setPending x).buffer = s.buffer := rfl
@[simp] theorem State.setPending_port (s : State) (x : List Instr) : (s.setPending x).port = s.port := rfl

/-! ### `setDraws` -/

@[simp] theorem State.setDraws_pending (s : State) (x : Nat) : (s.setDraws x).pending = s.pending := rfl
@[simp] theorem State.setDraws_draws (s : State) (x : Nat) : (s.setDraws x).draws = x := rfl
@[simp] theorem State.setDraws_loader (s : State) (x : Nat) : (s.setDraws x).loader = s.loader := rfl
@[simp] theorem State.setDraws_tick (s : State) (x : Nat) : (s.setDraws x).tick = s.tick := rfl
@[simp] theorem State.setDraws_timer (s : State) (x : Nat) : (s.setDraws x).timer = s.timer := rfl
@[simp] theorem State.setDraws_link (s : State) (x : Nat) : (s.setDraws x).link = s.link := rfl
@[simp] theorem State.setDraws_lock (s : State) (x : Nat) : (s.setDraws x).lock = s.lock := rfl
@[simp] theorem State.setDraws_heard (s : State) (x : Nat) : (s.setDraws x).heard = s.heard := rfl
@[simp] theorem State.setDraws_walk (s : State) (x : Nat) : (s.setDraws x).walk = s.walk := rfl
@[simp] theorem State.setDraws_member (s : State) (x : Nat) : (s.setDraws x).member = s.member := rfl
@[simp] theorem State.setDraws_channels (s : State) (x : Nat) : (s.setDraws x).channels = s.channels := rfl
@[simp] theorem State.setDraws_framePos (s : State) (x : Nat) : (s.setDraws x).framePos = s.framePos := rfl
@[simp] theorem State.setDraws_stopLine (s : State) (x : Nat) : (s.setDraws x).stopLine = s.stopLine := rfl
@[simp] theorem State.setDraws_console (s : State) (x : Nat) : (s.setDraws x).console = s.console := rfl
@[simp] theorem State.setDraws_capture (s : State) (x : Nat) : (s.setDraws x).capture = s.capture := rfl
@[simp] theorem State.setDraws_buffer (s : State) (x : Nat) : (s.setDraws x).buffer = s.buffer := rfl
@[simp] theorem State.setDraws_port (s : State) (x : Nat) : (s.setDraws x).port = s.port := rfl

/-! ### `setLoader` -/

@[simp] theorem State.setLoader_pending (s : State) (x : Loader) : (s.setLoader x).pending = s.pending := rfl
@[simp] theorem State.setLoader_draws (s : State) (x : Loader) : (s.setLoader x).draws = s.draws := rfl
@[simp] theorem State.setLoader_loader (s : State) (x : Loader) : (s.setLoader x).loader = x := rfl
@[simp] theorem State.setLoader_tick (s : State) (x : Loader) : (s.setLoader x).tick = s.tick := rfl
@[simp] theorem State.setLoader_timer (s : State) (x : Loader) : (s.setLoader x).timer = s.timer := rfl
@[simp] theorem State.setLoader_link (s : State) (x : Loader) : (s.setLoader x).link = s.link := rfl
@[simp] theorem State.setLoader_lock (s : State) (x : Loader) : (s.setLoader x).lock = s.lock := rfl
@[simp] theorem State.setLoader_heard (s : State) (x : Loader) : (s.setLoader x).heard = s.heard := rfl
@[simp] theorem State.setLoader_walk (s : State) (x : Loader) : (s.setLoader x).walk = s.walk := rfl
@[simp] theorem State.setLoader_member (s : State) (x : Loader) : (s.setLoader x).member = s.member := rfl
@[simp] theorem State.setLoader_channels (s : State) (x : Loader) : (s.setLoader x).channels = s.channels := rfl
@[simp] theorem State.setLoader_framePos (s : State) (x : Loader) : (s.setLoader x).framePos = s.framePos := rfl
@[simp] theorem State.setLoader_stopLine (s : State) (x : Loader) : (s.setLoader x).stopLine = s.stopLine := rfl
@[simp] theorem State.setLoader_console (s : State) (x : Loader) : (s.setLoader x).console = s.console := rfl
@[simp] theorem State.setLoader_capture (s : State) (x : Loader) : (s.setLoader x).capture = s.capture := rfl
@[simp] theorem State.setLoader_buffer (s : State) (x : Loader) : (s.setLoader x).buffer = s.buffer := rfl
@[simp] theorem State.setLoader_port (s : State) (x : Loader) : (s.setLoader x).port = s.port := rfl

/-! ### `setTick` -/

@[simp] theorem State.setTick_pending (s : State) (x : BitVec 32) : (s.setTick x).pending = s.pending := rfl
@[simp] theorem State.setTick_draws (s : State) (x : BitVec 32) : (s.setTick x).draws = s.draws := rfl
@[simp] theorem State.setTick_loader (s : State) (x : BitVec 32) : (s.setTick x).loader = s.loader := rfl
@[simp] theorem State.setTick_tick (s : State) (x : BitVec 32) : (s.setTick x).tick = x := rfl
@[simp] theorem State.setTick_timer (s : State) (x : BitVec 32) : (s.setTick x).timer = s.timer := rfl
@[simp] theorem State.setTick_link (s : State) (x : BitVec 32) : (s.setTick x).link = s.link := rfl
@[simp] theorem State.setTick_lock (s : State) (x : BitVec 32) : (s.setTick x).lock = s.lock := rfl
@[simp] theorem State.setTick_heard (s : State) (x : BitVec 32) : (s.setTick x).heard = s.heard := rfl
@[simp] theorem State.setTick_walk (s : State) (x : BitVec 32) : (s.setTick x).walk = s.walk := rfl
@[simp] theorem State.setTick_member (s : State) (x : BitVec 32) : (s.setTick x).member = s.member := rfl
@[simp] theorem State.setTick_channels (s : State) (x : BitVec 32) : (s.setTick x).channels = s.channels := rfl
@[simp] theorem State.setTick_framePos (s : State) (x : BitVec 32) : (s.setTick x).framePos = s.framePos := rfl
@[simp] theorem State.setTick_stopLine (s : State) (x : BitVec 32) : (s.setTick x).stopLine = s.stopLine := rfl
@[simp] theorem State.setTick_console (s : State) (x : BitVec 32) : (s.setTick x).console = s.console := rfl
@[simp] theorem State.setTick_capture (s : State) (x : BitVec 32) : (s.setTick x).capture = s.capture := rfl
@[simp] theorem State.setTick_buffer (s : State) (x : BitVec 32) : (s.setTick x).buffer = s.buffer := rfl
@[simp] theorem State.setTick_port (s : State) (x : BitVec 32) : (s.setTick x).port = s.port := rfl

/-! ### `setTimer` -/

@[simp] theorem State.setTimer_pending (s : State) (x : RoundTimer) : (s.setTimer x).pending = s.pending := rfl
@[simp] theorem State.setTimer_draws (s : State) (x : RoundTimer) : (s.setTimer x).draws = s.draws := rfl
@[simp] theorem State.setTimer_loader (s : State) (x : RoundTimer) : (s.setTimer x).loader = s.loader := rfl
@[simp] theorem State.setTimer_tick (s : State) (x : RoundTimer) : (s.setTimer x).tick = s.tick := rfl
@[simp] theorem State.setTimer_timer (s : State) (x : RoundTimer) : (s.setTimer x).timer = x := rfl
@[simp] theorem State.setTimer_link (s : State) (x : RoundTimer) : (s.setTimer x).link = s.link := rfl
@[simp] theorem State.setTimer_lock (s : State) (x : RoundTimer) : (s.setTimer x).lock = s.lock := rfl
@[simp] theorem State.setTimer_heard (s : State) (x : RoundTimer) : (s.setTimer x).heard = s.heard := rfl
@[simp] theorem State.setTimer_walk (s : State) (x : RoundTimer) : (s.setTimer x).walk = s.walk := rfl
@[simp] theorem State.setTimer_member (s : State) (x : RoundTimer) : (s.setTimer x).member = s.member := rfl
@[simp] theorem State.setTimer_channels (s : State) (x : RoundTimer) : (s.setTimer x).channels = s.channels := rfl
@[simp] theorem State.setTimer_framePos (s : State) (x : RoundTimer) : (s.setTimer x).framePos = s.framePos := rfl
@[simp] theorem State.setTimer_stopLine (s : State) (x : RoundTimer) : (s.setTimer x).stopLine = s.stopLine := rfl
@[simp] theorem State.setTimer_console (s : State) (x : RoundTimer) : (s.setTimer x).console = s.console := rfl
@[simp] theorem State.setTimer_capture (s : State) (x : RoundTimer) : (s.setTimer x).capture = s.capture := rfl
@[simp] theorem State.setTimer_buffer (s : State) (x : RoundTimer) : (s.setTimer x).buffer = s.buffer := rfl
@[simp] theorem State.setTimer_port (s : State) (x : RoundTimer) : (s.setTimer x).port = s.port := rfl

/-! ### `setLink` -/

@[simp] theorem State.setLink_pending (s : State) (x : Transceiver) : (s.setLink x).pending = s.pending := rfl
@[simp] theorem State.setLink_draws (s : State) (x : Transceiver) : (s.setLink x).draws = s.draws := rfl
@[simp] theorem State.setLink_loader (s : State) (x : Transceiver) : (s.setLink x).loader = s.loader := rfl
@[simp] theorem State.setLink_tick (s : State) (x : Transceiver) : (s.setLink x).tick = s.tick := rfl
@[simp] theorem State.setLink_timer (s : State) (x : Transceiver) : (s.setLink x).timer = s.timer := rfl
@[simp] theorem State.setLink_link (s : State) (x : Transceiver) : (s.setLink x).link = x := rfl
@[simp] theorem State.setLink_lock (s : State) (x : Transceiver) : (s.setLink x).lock = s.lock := rfl
@[simp] theorem State.setLink_heard (s : State) (x : Transceiver) : (s.setLink x).heard = s.heard := rfl
@[simp] theorem State.setLink_walk (s : State) (x : Transceiver) : (s.setLink x).walk = s.walk := rfl
@[simp] theorem State.setLink_member (s : State) (x : Transceiver) : (s.setLink x).member = s.member := rfl
@[simp] theorem State.setLink_channels (s : State) (x : Transceiver) : (s.setLink x).channels = s.channels := rfl
@[simp] theorem State.setLink_framePos (s : State) (x : Transceiver) : (s.setLink x).framePos = s.framePos := rfl
@[simp] theorem State.setLink_stopLine (s : State) (x : Transceiver) : (s.setLink x).stopLine = s.stopLine := rfl
@[simp] theorem State.setLink_console (s : State) (x : Transceiver) : (s.setLink x).console = s.console := rfl
@[simp] theorem State.setLink_capture (s : State) (x : Transceiver) : (s.setLink x).capture = s.capture := rfl
@[simp] theorem State.setLink_buffer (s : State) (x : Transceiver) : (s.setLink x).buffer = s.buffer := rfl
@[simp] theorem State.setLink_port (s : State) (x : Transceiver) : (s.setLink x).port = s.port := rfl

/-! ### `setLock` -/

@[simp] theorem State.setLock_pending (s : State) (x : Lock) : (s.setLock x).pending = s.pending := rfl
@[simp] theorem State.setLock_draws (s : State) (x : Lock) : (s.setLock x).draws = s.draws := rfl
@[simp] theorem State.setLock_loader (s : State) (x : Lock) : (s.setLock x).loader = s.loader := rfl
@[simp] theorem State.setLock_tick (s : State) (x : Lock) : (s.setLock x).tick = s.tick := rfl
@[simp] theorem State.setLock_timer (s : State) (x : Lock) : (s.setLock x).timer = s.timer := rfl
@[simp] theorem State.setLock_link (s : State) (x : Lock) : (s.setLock x).link = s.link := rfl
@[simp] theorem State.setLock_lock (s : State) (x : Lock) : (s.setLock x).lock = x := rfl
@[simp] theorem State.setLock_heard (s : State) (x : Lock) : (s.setLock x).heard = s.heard := rfl
@[simp] theorem State.setLock_walk (s : State) (x : Lock) : (s.setLock x).walk = s.walk := rfl
@[simp] theorem State.setLock_member (s : State) (x : Lock) : (s.setLock x).member = s.member := rfl
@[simp] theorem State.setLock_channels (s : State) (x : Lock) : (s.setLock x).channels = s.channels := rfl
@[simp] theorem State.setLock_framePos (s : State) (x : Lock) : (s.setLock x).framePos = s.framePos := rfl
@[simp] theorem State.setLock_stopLine (s : State) (x : Lock) : (s.setLock x).stopLine = s.stopLine := rfl
@[simp] theorem State.setLock_console (s : State) (x : Lock) : (s.setLock x).console = s.console := rfl
@[simp] theorem State.setLock_capture (s : State) (x : Lock) : (s.setLock x).capture = s.capture := rfl
@[simp] theorem State.setLock_buffer (s : State) (x : Lock) : (s.setLock x).buffer = s.buffer := rfl
@[simp] theorem State.setLock_port (s : State) (x : Lock) : (s.setLock x).port = s.port := rfl

/-! ### `setHeard` -/

@[simp] theorem State.setHeard_pending (s : State) (x : HeardTable) : (s.setHeard x).pending = s.pending := rfl
@[simp] theorem State.setHeard_draws (s : State) (x : HeardTable) : (s.setHeard x).draws = s.draws := rfl
@[simp] theorem State.setHeard_loader (s : State) (x : HeardTable) : (s.setHeard x).loader = s.loader := rfl
@[simp] theorem State.setHeard_tick (s : State) (x : HeardTable) : (s.setHeard x).tick = s.tick := rfl
@[simp] theorem State.setHeard_timer (s : State) (x : HeardTable) : (s.setHeard x).timer = s.timer := rfl
@[simp] theorem State.setHeard_link (s : State) (x : HeardTable) : (s.setHeard x).link = s.link := rfl
@[simp] theorem State.setHeard_lock (s : State) (x : HeardTable) : (s.setHeard x).lock = s.lock := rfl
@[simp] theorem State.setHeard_heard (s : State) (x : HeardTable) : (s.setHeard x).heard = x := rfl
@[simp] theorem State.setHeard_walk (s : State) (x : HeardTable) : (s.setHeard x).walk = s.walk := rfl
@[simp] theorem State.setHeard_member (s : State) (x : HeardTable) : (s.setHeard x).member = s.member := rfl
@[simp] theorem State.setHeard_channels (s : State) (x : HeardTable) : (s.setHeard x).channels = s.channels := rfl
@[simp] theorem State.setHeard_framePos (s : State) (x : HeardTable) : (s.setHeard x).framePos = s.framePos := rfl
@[simp] theorem State.setHeard_stopLine (s : State) (x : HeardTable) : (s.setHeard x).stopLine = s.stopLine := rfl
@[simp] theorem State.setHeard_console (s : State) (x : HeardTable) : (s.setHeard x).console = s.console := rfl
@[simp] theorem State.setHeard_capture (s : State) (x : HeardTable) : (s.setHeard x).capture = s.capture := rfl
@[simp] theorem State.setHeard_buffer (s : State) (x : HeardTable) : (s.setHeard x).buffer = s.buffer := rfl
@[simp] theorem State.setHeard_port (s : State) (x : HeardTable) : (s.setHeard x).port = s.port := rfl

/-! ### `setWalk` -/

@[simp] theorem State.setWalk_pending (s : State) (x : WalkUnit) : (s.setWalk x).pending = s.pending := rfl
@[simp] theorem State.setWalk_draws (s : State) (x : WalkUnit) : (s.setWalk x).draws = s.draws := rfl
@[simp] theorem State.setWalk_loader (s : State) (x : WalkUnit) : (s.setWalk x).loader = s.loader := rfl
@[simp] theorem State.setWalk_tick (s : State) (x : WalkUnit) : (s.setWalk x).tick = s.tick := rfl
@[simp] theorem State.setWalk_timer (s : State) (x : WalkUnit) : (s.setWalk x).timer = s.timer := rfl
@[simp] theorem State.setWalk_link (s : State) (x : WalkUnit) : (s.setWalk x).link = s.link := rfl
@[simp] theorem State.setWalk_lock (s : State) (x : WalkUnit) : (s.setWalk x).lock = s.lock := rfl
@[simp] theorem State.setWalk_heard (s : State) (x : WalkUnit) : (s.setWalk x).heard = s.heard := rfl
@[simp] theorem State.setWalk_walk (s : State) (x : WalkUnit) : (s.setWalk x).walk = x := rfl
@[simp] theorem State.setWalk_member (s : State) (x : WalkUnit) : (s.setWalk x).member = s.member := rfl
@[simp] theorem State.setWalk_channels (s : State) (x : WalkUnit) : (s.setWalk x).channels = s.channels := rfl
@[simp] theorem State.setWalk_framePos (s : State) (x : WalkUnit) : (s.setWalk x).framePos = s.framePos := rfl
@[simp] theorem State.setWalk_stopLine (s : State) (x : WalkUnit) : (s.setWalk x).stopLine = s.stopLine := rfl
@[simp] theorem State.setWalk_console (s : State) (x : WalkUnit) : (s.setWalk x).console = s.console := rfl
@[simp] theorem State.setWalk_capture (s : State) (x : WalkUnit) : (s.setWalk x).capture = s.capture := rfl
@[simp] theorem State.setWalk_buffer (s : State) (x : WalkUnit) : (s.setWalk x).buffer = s.buffer := rfl
@[simp] theorem State.setWalk_port (s : State) (x : WalkUnit) : (s.setWalk x).port = s.port := rfl

/-! ### `setMember` -/

@[simp] theorem State.setMember_pending (s : State) (x : Membership) : (s.setMember x).pending = s.pending := rfl
@[simp] theorem State.setMember_draws (s : State) (x : Membership) : (s.setMember x).draws = s.draws := rfl
@[simp] theorem State.setMember_loader (s : State) (x : Membership) : (s.setMember x).loader = s.loader := rfl
@[simp] theorem State.setMember_tick (s : State) (x : Membership) : (s.setMember x).tick = s.tick := rfl
@[simp] theorem State.setMember_timer (s : State) (x : Membership) : (s.setMember x).timer = s.timer := rfl
@[simp] theorem State.setMember_link (s : State) (x : Membership) : (s.setMember x).link = s.link := rfl
@[simp] theorem State.setMember_lock (s : State) (x : Membership) : (s.setMember x).lock = s.lock := rfl
@[simp] theorem State.setMember_heard (s : State) (x : Membership) : (s.setMember x).heard = s.heard := rfl
@[simp] theorem State.setMember_walk (s : State) (x : Membership) : (s.setMember x).walk = s.walk := rfl
@[simp] theorem State.setMember_member (s : State) (x : Membership) : (s.setMember x).member = x := rfl
@[simp] theorem State.setMember_channels (s : State) (x : Membership) : (s.setMember x).channels = s.channels := rfl
@[simp] theorem State.setMember_framePos (s : State) (x : Membership) : (s.setMember x).framePos = s.framePos := rfl
@[simp] theorem State.setMember_stopLine (s : State) (x : Membership) : (s.setMember x).stopLine = s.stopLine := rfl
@[simp] theorem State.setMember_console (s : State) (x : Membership) : (s.setMember x).console = s.console := rfl
@[simp] theorem State.setMember_capture (s : State) (x : Membership) : (s.setMember x).capture = s.capture := rfl
@[simp] theorem State.setMember_buffer (s : State) (x : Membership) : (s.setMember x).buffer = s.buffer := rfl
@[simp] theorem State.setMember_port (s : State) (x : Membership) : (s.setMember x).port = s.port := rfl

/-! ### `setChannels` -/

@[simp] theorem State.setChannels_pending (s : State) (x : Quad Channel) : (s.setChannels x).pending = s.pending := rfl
@[simp] theorem State.setChannels_draws (s : State) (x : Quad Channel) : (s.setChannels x).draws = s.draws := rfl
@[simp] theorem State.setChannels_loader (s : State) (x : Quad Channel) : (s.setChannels x).loader = s.loader := rfl
@[simp] theorem State.setChannels_tick (s : State) (x : Quad Channel) : (s.setChannels x).tick = s.tick := rfl
@[simp] theorem State.setChannels_timer (s : State) (x : Quad Channel) : (s.setChannels x).timer = s.timer := rfl
@[simp] theorem State.setChannels_link (s : State) (x : Quad Channel) : (s.setChannels x).link = s.link := rfl
@[simp] theorem State.setChannels_lock (s : State) (x : Quad Channel) : (s.setChannels x).lock = s.lock := rfl
@[simp] theorem State.setChannels_heard (s : State) (x : Quad Channel) : (s.setChannels x).heard = s.heard := rfl
@[simp] theorem State.setChannels_walk (s : State) (x : Quad Channel) : (s.setChannels x).walk = s.walk := rfl
@[simp] theorem State.setChannels_member (s : State) (x : Quad Channel) : (s.setChannels x).member = s.member := rfl
@[simp] theorem State.setChannels_channels (s : State) (x : Quad Channel) : (s.setChannels x).channels = x := rfl
@[simp] theorem State.setChannels_framePos (s : State) (x : Quad Channel) : (s.setChannels x).framePos = s.framePos := rfl
@[simp] theorem State.setChannels_stopLine (s : State) (x : Quad Channel) : (s.setChannels x).stopLine = s.stopLine := rfl
@[simp] theorem State.setChannels_console (s : State) (x : Quad Channel) : (s.setChannels x).console = s.console := rfl
@[simp] theorem State.setChannels_capture (s : State) (x : Quad Channel) : (s.setChannels x).capture = s.capture := rfl
@[simp] theorem State.setChannels_buffer (s : State) (x : Quad Channel) : (s.setChannels x).buffer = s.buffer := rfl
@[simp] theorem State.setChannels_port (s : State) (x : Quad Channel) : (s.setChannels x).port = s.port := rfl

/-! ### `setFramePos` -/

@[simp] theorem State.setFramePos_pending (s : State) (x : Nat) : (s.setFramePos x).pending = s.pending := rfl
@[simp] theorem State.setFramePos_draws (s : State) (x : Nat) : (s.setFramePos x).draws = s.draws := rfl
@[simp] theorem State.setFramePos_loader (s : State) (x : Nat) : (s.setFramePos x).loader = s.loader := rfl
@[simp] theorem State.setFramePos_tick (s : State) (x : Nat) : (s.setFramePos x).tick = s.tick := rfl
@[simp] theorem State.setFramePos_timer (s : State) (x : Nat) : (s.setFramePos x).timer = s.timer := rfl
@[simp] theorem State.setFramePos_link (s : State) (x : Nat) : (s.setFramePos x).link = s.link := rfl
@[simp] theorem State.setFramePos_lock (s : State) (x : Nat) : (s.setFramePos x).lock = s.lock := rfl
@[simp] theorem State.setFramePos_heard (s : State) (x : Nat) : (s.setFramePos x).heard = s.heard := rfl
@[simp] theorem State.setFramePos_walk (s : State) (x : Nat) : (s.setFramePos x).walk = s.walk := rfl
@[simp] theorem State.setFramePos_member (s : State) (x : Nat) : (s.setFramePos x).member = s.member := rfl
@[simp] theorem State.setFramePos_channels (s : State) (x : Nat) : (s.setFramePos x).channels = s.channels := rfl
@[simp] theorem State.setFramePos_framePos (s : State) (x : Nat) : (s.setFramePos x).framePos = x := rfl
@[simp] theorem State.setFramePos_stopLine (s : State) (x : Nat) : (s.setFramePos x).stopLine = s.stopLine := rfl
@[simp] theorem State.setFramePos_console (s : State) (x : Nat) : (s.setFramePos x).console = s.console := rfl
@[simp] theorem State.setFramePos_capture (s : State) (x : Nat) : (s.setFramePos x).capture = s.capture := rfl
@[simp] theorem State.setFramePos_buffer (s : State) (x : Nat) : (s.setFramePos x).buffer = s.buffer := rfl
@[simp] theorem State.setFramePos_port (s : State) (x : Nat) : (s.setFramePos x).port = s.port := rfl

/-! ### `setStopLine` -/

@[simp] theorem State.setStopLine_pending (s : State) (x : Filter) : (s.setStopLine x).pending = s.pending := rfl
@[simp] theorem State.setStopLine_draws (s : State) (x : Filter) : (s.setStopLine x).draws = s.draws := rfl
@[simp] theorem State.setStopLine_loader (s : State) (x : Filter) : (s.setStopLine x).loader = s.loader := rfl
@[simp] theorem State.setStopLine_tick (s : State) (x : Filter) : (s.setStopLine x).tick = s.tick := rfl
@[simp] theorem State.setStopLine_timer (s : State) (x : Filter) : (s.setStopLine x).timer = s.timer := rfl
@[simp] theorem State.setStopLine_link (s : State) (x : Filter) : (s.setStopLine x).link = s.link := rfl
@[simp] theorem State.setStopLine_lock (s : State) (x : Filter) : (s.setStopLine x).lock = s.lock := rfl
@[simp] theorem State.setStopLine_heard (s : State) (x : Filter) : (s.setStopLine x).heard = s.heard := rfl
@[simp] theorem State.setStopLine_walk (s : State) (x : Filter) : (s.setStopLine x).walk = s.walk := rfl
@[simp] theorem State.setStopLine_member (s : State) (x : Filter) : (s.setStopLine x).member = s.member := rfl
@[simp] theorem State.setStopLine_channels (s : State) (x : Filter) : (s.setStopLine x).channels = s.channels := rfl
@[simp] theorem State.setStopLine_framePos (s : State) (x : Filter) : (s.setStopLine x).framePos = s.framePos := rfl
@[simp] theorem State.setStopLine_stopLine (s : State) (x : Filter) : (s.setStopLine x).stopLine = x := rfl
@[simp] theorem State.setStopLine_console (s : State) (x : Filter) : (s.setStopLine x).console = s.console := rfl
@[simp] theorem State.setStopLine_capture (s : State) (x : Filter) : (s.setStopLine x).capture = s.capture := rfl
@[simp] theorem State.setStopLine_buffer (s : State) (x : Filter) : (s.setStopLine x).buffer = s.buffer := rfl
@[simp] theorem State.setStopLine_port (s : State) (x : Filter) : (s.setStopLine x).port = s.port := rfl

/-! ### `setConsole` -/

@[simp] theorem State.setConsole_pending (s : State) (x : Console) : (s.setConsole x).pending = s.pending := rfl
@[simp] theorem State.setConsole_draws (s : State) (x : Console) : (s.setConsole x).draws = s.draws := rfl
@[simp] theorem State.setConsole_loader (s : State) (x : Console) : (s.setConsole x).loader = s.loader := rfl
@[simp] theorem State.setConsole_tick (s : State) (x : Console) : (s.setConsole x).tick = s.tick := rfl
@[simp] theorem State.setConsole_timer (s : State) (x : Console) : (s.setConsole x).timer = s.timer := rfl
@[simp] theorem State.setConsole_link (s : State) (x : Console) : (s.setConsole x).link = s.link := rfl
@[simp] theorem State.setConsole_lock (s : State) (x : Console) : (s.setConsole x).lock = s.lock := rfl
@[simp] theorem State.setConsole_heard (s : State) (x : Console) : (s.setConsole x).heard = s.heard := rfl
@[simp] theorem State.setConsole_walk (s : State) (x : Console) : (s.setConsole x).walk = s.walk := rfl
@[simp] theorem State.setConsole_member (s : State) (x : Console) : (s.setConsole x).member = s.member := rfl
@[simp] theorem State.setConsole_channels (s : State) (x : Console) : (s.setConsole x).channels = s.channels := rfl
@[simp] theorem State.setConsole_framePos (s : State) (x : Console) : (s.setConsole x).framePos = s.framePos := rfl
@[simp] theorem State.setConsole_stopLine (s : State) (x : Console) : (s.setConsole x).stopLine = s.stopLine := rfl
@[simp] theorem State.setConsole_console (s : State) (x : Console) : (s.setConsole x).console = x := rfl
@[simp] theorem State.setConsole_capture (s : State) (x : Console) : (s.setConsole x).capture = s.capture := rfl
@[simp] theorem State.setConsole_buffer (s : State) (x : Console) : (s.setConsole x).buffer = s.buffer := rfl
@[simp] theorem State.setConsole_port (s : State) (x : Console) : (s.setConsole x).port = s.port := rfl

/-! ### `setCapture` -/

@[simp] theorem State.setCapture_pending (s : State) (x : Capture) : (s.setCapture x).pending = s.pending := rfl
@[simp] theorem State.setCapture_draws (s : State) (x : Capture) : (s.setCapture x).draws = s.draws := rfl
@[simp] theorem State.setCapture_loader (s : State) (x : Capture) : (s.setCapture x).loader = s.loader := rfl
@[simp] theorem State.setCapture_tick (s : State) (x : Capture) : (s.setCapture x).tick = s.tick := rfl
@[simp] theorem State.setCapture_timer (s : State) (x : Capture) : (s.setCapture x).timer = s.timer := rfl
@[simp] theorem State.setCapture_link (s : State) (x : Capture) : (s.setCapture x).link = s.link := rfl
@[simp] theorem State.setCapture_lock (s : State) (x : Capture) : (s.setCapture x).lock = s.lock := rfl
@[simp] theorem State.setCapture_heard (s : State) (x : Capture) : (s.setCapture x).heard = s.heard := rfl
@[simp] theorem State.setCapture_walk (s : State) (x : Capture) : (s.setCapture x).walk = s.walk := rfl
@[simp] theorem State.setCapture_member (s : State) (x : Capture) : (s.setCapture x).member = s.member := rfl
@[simp] theorem State.setCapture_channels (s : State) (x : Capture) : (s.setCapture x).channels = s.channels := rfl
@[simp] theorem State.setCapture_framePos (s : State) (x : Capture) : (s.setCapture x).framePos = s.framePos := rfl
@[simp] theorem State.setCapture_stopLine (s : State) (x : Capture) : (s.setCapture x).stopLine = s.stopLine := rfl
@[simp] theorem State.setCapture_console (s : State) (x : Capture) : (s.setCapture x).console = s.console := rfl
@[simp] theorem State.setCapture_capture (s : State) (x : Capture) : (s.setCapture x).capture = x := rfl
@[simp] theorem State.setCapture_buffer (s : State) (x : Capture) : (s.setCapture x).buffer = s.buffer := rfl
@[simp] theorem State.setCapture_port (s : State) (x : Capture) : (s.setCapture x).port = s.port := rfl

/-! ### `setBuffer` -/

@[simp] theorem State.setBuffer_pending (s : State) (x : Buffer) : (s.setBuffer x).pending = s.pending := rfl
@[simp] theorem State.setBuffer_draws (s : State) (x : Buffer) : (s.setBuffer x).draws = s.draws := rfl
@[simp] theorem State.setBuffer_loader (s : State) (x : Buffer) : (s.setBuffer x).loader = s.loader := rfl
@[simp] theorem State.setBuffer_tick (s : State) (x : Buffer) : (s.setBuffer x).tick = s.tick := rfl
@[simp] theorem State.setBuffer_timer (s : State) (x : Buffer) : (s.setBuffer x).timer = s.timer := rfl
@[simp] theorem State.setBuffer_link (s : State) (x : Buffer) : (s.setBuffer x).link = s.link := rfl
@[simp] theorem State.setBuffer_lock (s : State) (x : Buffer) : (s.setBuffer x).lock = s.lock := rfl
@[simp] theorem State.setBuffer_heard (s : State) (x : Buffer) : (s.setBuffer x).heard = s.heard := rfl
@[simp] theorem State.setBuffer_walk (s : State) (x : Buffer) : (s.setBuffer x).walk = s.walk := rfl
@[simp] theorem State.setBuffer_member (s : State) (x : Buffer) : (s.setBuffer x).member = s.member := rfl
@[simp] theorem State.setBuffer_channels (s : State) (x : Buffer) : (s.setBuffer x).channels = s.channels := rfl
@[simp] theorem State.setBuffer_framePos (s : State) (x : Buffer) : (s.setBuffer x).framePos = s.framePos := rfl
@[simp] theorem State.setBuffer_stopLine (s : State) (x : Buffer) : (s.setBuffer x).stopLine = s.stopLine := rfl
@[simp] theorem State.setBuffer_console (s : State) (x : Buffer) : (s.setBuffer x).console = s.console := rfl
@[simp] theorem State.setBuffer_capture (s : State) (x : Buffer) : (s.setBuffer x).capture = s.capture := rfl
@[simp] theorem State.setBuffer_buffer (s : State) (x : Buffer) : (s.setBuffer x).buffer = x := rfl
@[simp] theorem State.setBuffer_port (s : State) (x : Buffer) : (s.setBuffer x).port = s.port := rfl

/-! ### `setPort` -/

@[simp] theorem State.setPort_pending (s : State) (x : Port) : (s.setPort x).pending = s.pending := rfl
@[simp] theorem State.setPort_draws (s : State) (x : Port) : (s.setPort x).draws = s.draws := rfl
@[simp] theorem State.setPort_loader (s : State) (x : Port) : (s.setPort x).loader = s.loader := rfl
@[simp] theorem State.setPort_tick (s : State) (x : Port) : (s.setPort x).tick = s.tick := rfl
@[simp] theorem State.setPort_timer (s : State) (x : Port) : (s.setPort x).timer = s.timer := rfl
@[simp] theorem State.setPort_link (s : State) (x : Port) : (s.setPort x).link = s.link := rfl
@[simp] theorem State.setPort_lock (s : State) (x : Port) : (s.setPort x).lock = s.lock := rfl
@[simp] theorem State.setPort_heard (s : State) (x : Port) : (s.setPort x).heard = s.heard := rfl
@[simp] theorem State.setPort_walk (s : State) (x : Port) : (s.setPort x).walk = s.walk := rfl
@[simp] theorem State.setPort_member (s : State) (x : Port) : (s.setPort x).member = s.member := rfl
@[simp] theorem State.setPort_channels (s : State) (x : Port) : (s.setPort x).channels = s.channels := rfl
@[simp] theorem State.setPort_framePos (s : State) (x : Port) : (s.setPort x).framePos = s.framePos := rfl
@[simp] theorem State.setPort_stopLine (s : State) (x : Port) : (s.setPort x).stopLine = s.stopLine := rfl
@[simp] theorem State.setPort_console (s : State) (x : Port) : (s.setPort x).console = s.console := rfl
@[simp] theorem State.setPort_capture (s : State) (x : Port) : (s.setPort x).capture = s.capture := rfl
@[simp] theorem State.setPort_buffer (s : State) (x : Port) : (s.setPort x).buffer = s.buffer := rfl
@[simp] theorem State.setPort_port (s : State) (x : Port) : (s.setPort x).port = x := rfl

/-! ### Updates composed -/

@[simp] theorem State.setPending_self (s : State) : s.setPending s.pending = s := rfl
@[simp] theorem State.setPending_twice (s : State) (x y : List Instr) : (s.setPending x).setPending y = s.setPending y := rfl
@[simp] theorem State.setDraws_self (s : State) : s.setDraws s.draws = s := rfl
@[simp] theorem State.setDraws_twice (s : State) (x y : Nat) : (s.setDraws x).setDraws y = s.setDraws y := rfl
@[simp] theorem State.setLoader_self (s : State) : s.setLoader s.loader = s := rfl
@[simp] theorem State.setLoader_twice (s : State) (x y : Loader) : (s.setLoader x).setLoader y = s.setLoader y := rfl
@[simp] theorem State.setTick_self (s : State) : s.setTick s.tick = s := rfl
@[simp] theorem State.setTick_twice (s : State) (x y : BitVec 32) : (s.setTick x).setTick y = s.setTick y := rfl
@[simp] theorem State.setTimer_self (s : State) : s.setTimer s.timer = s := rfl
@[simp] theorem State.setTimer_twice (s : State) (x y : RoundTimer) : (s.setTimer x).setTimer y = s.setTimer y := rfl
@[simp] theorem State.setLink_self (s : State) : s.setLink s.link = s := rfl
@[simp] theorem State.setLink_twice (s : State) (x y : Transceiver) : (s.setLink x).setLink y = s.setLink y := rfl
@[simp] theorem State.setLock_self (s : State) : s.setLock s.lock = s := rfl
@[simp] theorem State.setLock_twice (s : State) (x y : Lock) : (s.setLock x).setLock y = s.setLock y := rfl
@[simp] theorem State.setHeard_self (s : State) : s.setHeard s.heard = s := rfl
@[simp] theorem State.setHeard_twice (s : State) (x y : HeardTable) : (s.setHeard x).setHeard y = s.setHeard y := rfl
@[simp] theorem State.setWalk_self (s : State) : s.setWalk s.walk = s := rfl
@[simp] theorem State.setWalk_twice (s : State) (x y : WalkUnit) : (s.setWalk x).setWalk y = s.setWalk y := rfl
@[simp] theorem State.setMember_self (s : State) : s.setMember s.member = s := rfl
@[simp] theorem State.setMember_twice (s : State) (x y : Membership) : (s.setMember x).setMember y = s.setMember y := rfl
@[simp] theorem State.setChannels_self (s : State) : s.setChannels s.channels = s := rfl
@[simp] theorem State.setChannels_twice (s : State) (x y : Quad Channel) : (s.setChannels x).setChannels y = s.setChannels y := rfl
@[simp] theorem State.setFramePos_self (s : State) : s.setFramePos s.framePos = s := rfl
@[simp] theorem State.setFramePos_twice (s : State) (x y : Nat) : (s.setFramePos x).setFramePos y = s.setFramePos y := rfl
@[simp] theorem State.setStopLine_self (s : State) : s.setStopLine s.stopLine = s := rfl
@[simp] theorem State.setStopLine_twice (s : State) (x y : Filter) : (s.setStopLine x).setStopLine y = s.setStopLine y := rfl
@[simp] theorem State.setConsole_self (s : State) : s.setConsole s.console = s := rfl
@[simp] theorem State.setConsole_twice (s : State) (x y : Console) : (s.setConsole x).setConsole y = s.setConsole y := rfl
@[simp] theorem State.setCapture_self (s : State) : s.setCapture s.capture = s := rfl
@[simp] theorem State.setCapture_twice (s : State) (x y : Capture) : (s.setCapture x).setCapture y = s.setCapture y := rfl
@[simp] theorem State.setBuffer_self (s : State) : s.setBuffer s.buffer = s := rfl
@[simp] theorem State.setBuffer_twice (s : State) (x y : Buffer) : (s.setBuffer x).setBuffer y = s.setBuffer y := rfl
@[simp] theorem State.setPort_self (s : State) : s.setPort s.port = s := rfl
@[simp] theorem State.setPort_twice (s : State) (x y : Port) : (s.setPort x).setPort y = s.setPort y := rfl

end Sys2Proof.Machine
end

