-- ==== Sys2Proof/Laws/Queue.lean ====
section
/-! SUPPORT. The entry queues: what an offer does, and that every queue keeps its bounds (R156). -/

namespace Sys2Proof.Machine

/-- An offer to a queue with room joins the tail. -/
theorem offer_room {q : EntryQueue} (e : Entry) (h : q.entries.length < 4) :
    offer q e = { q with entries := q.entries ++ [e] } := by
  unfold offer
  rw [if_pos (by simpa only [Config.queueDepth] using h)]

/-- An offer to a queue without room is skipped and counted. -/
theorem offer_full {q : EntryQueue} (e : Entry) (h : 4 ≤ q.entries.length) :
    offer q e = { q with skips := satInc q.skips 65535 } := by
  unfold offer
  rw [if_neg (by simp only [Config.queueDepth]; omega)]
  rfl

/-- An offer keeps the bounds. -/
theorem offer_inv (q : EntryQueue) (e : Entry) (h : QueueInv q) : QueueInv (offer q e) := by
  unfold offer
  split
  · rename_i hr
    refine ⟨?_, h.2⟩
    show (q.entries ++ [e]).length ≤ Config.queueDepth
    rw [List.length_append]
    show q.entries.length + 1 ≤ Config.queueDepth
    omega
  · exact ⟨h.1, satInc_le _ _⟩

/-- Offers one after another keep the bounds. -/
theorem offerAll_inv (es : List Entry) (q : EntryQueue) (h : QueueInv q) : QueueInv (offerAll q es) := by
  induction es generalizing q with
  | nil => exact h
  | cons e es ih => exact ih (offer q e) (offer_inv q e h)

/-- No offer changes nothing. -/
@[simp] theorem offerAll_nil (q : EntryQueue) : offerAll q [] = q := rfl

@[simp] theorem offerAll_cons (q : EntryQueue) (e : Entry) (es : List Entry) :
    offerAll q (e :: es) = offerAll (offer q e) es := rfl

/-! ### Offers to the station queue touch nothing else -/

@[simp] theorem offerStation_pending (s : State) (es : List StationEvent) : (offerStation s es).pending = s.pending := rfl
@[simp] theorem offerStation_draws (s : State) (es : List StationEvent) : (offerStation s es).draws = s.draws := rfl
@[simp] theorem offerStation_loader (s : State) (es : List StationEvent) : (offerStation s es).loader = s.loader := rfl
@[simp] theorem offerStation_tick (s : State) (es : List StationEvent) : (offerStation s es).tick = s.tick := rfl
@[simp] theorem offerStation_timer (s : State) (es : List StationEvent) : (offerStation s es).timer = s.timer := rfl
@[simp] theorem offerStation_link (s : State) (es : List StationEvent) : (offerStation s es).link = s.link := rfl
@[simp] theorem offerStation_lock (s : State) (es : List StationEvent) : (offerStation s es).lock = s.lock := rfl
@[simp] theorem offerStation_heard (s : State) (es : List StationEvent) : (offerStation s es).heard = s.heard := rfl
@[simp] theorem offerStation_walk (s : State) (es : List StationEvent) : (offerStation s es).walk = s.walk := rfl
@[simp] theorem offerStation_member (s : State) (es : List StationEvent) : (offerStation s es).member = s.member := rfl
@[simp] theorem offerStation_channels (s : State) (es : List StationEvent) : (offerStation s es).channels = s.channels := rfl
@[simp] theorem offerStation_framePos (s : State) (es : List StationEvent) : (offerStation s es).framePos = s.framePos := rfl
@[simp] theorem offerStation_stopLine (s : State) (es : List StationEvent) : (offerStation s es).stopLine = s.stopLine := rfl
@[simp] theorem offerStation_console (s : State) (es : List StationEvent) : (offerStation s es).console = s.console := rfl
@[simp] theorem offerStation_buffer (s : State) (es : List StationEvent) : (offerStation s es).buffer = s.buffer := rfl
@[simp] theorem offerStation_port (s : State) (es : List StationEvent) : (offerStation s es).port = s.port := rfl

/-- The channel queues are not touched, and the station queue takes the offers. -/
theorem offerStation_capture (s : State) (es : List StationEvent) :
    (offerStation s es).capture =
      { channels := s.capture.channels
        station := offerAll s.capture.station (es.map fun e => Entry.station s.tick e s.timer.round) } := rfl

/-- Offers to the station queue keep the bounds. -/
theorem offerStation_inv (s : State) (es : List StationEvent) (h : CaptureInv s.capture) :
    CaptureInv (offerStation s es).capture :=
  ⟨h.1, offerAll_inv _ _ h.2⟩

end Sys2Proof.Machine
end

