-- ==== Sys2Proof/Laws/Link.lean ====
section
/-! SUPPORT. What the shared operations of link events touch: one lemma per field they leave alone (and the field they
change). -/

namespace Sys2Proof.Machine


/-! ### advanceTo -/

@[simp] theorem advanceTo_pending (s : State) (now : Nat) : (advanceTo s now).pending = s.pending := rfl
@[simp] theorem advanceTo_draws (s : State) (now : Nat) : (advanceTo s now).draws = s.draws := rfl
@[simp] theorem advanceTo_loader (s : State) (now : Nat) : (advanceTo s now).loader = s.loader := rfl
@[simp] theorem advanceTo_tick (s : State) (now : Nat) : (advanceTo s now).tick = s.tick := rfl
@[simp] theorem advanceTo_link (s : State) (now : Nat) : (advanceTo s now).link = s.link := rfl
@[simp] theorem advanceTo_lock (s : State) (now : Nat) : (advanceTo s now).lock = s.lock := rfl
@[simp] theorem advanceTo_heard (s : State) (now : Nat) : (advanceTo s now).heard = s.heard := rfl
@[simp] theorem advanceTo_walk (s : State) (now : Nat) : (advanceTo s now).walk = s.walk := rfl
@[simp] theorem advanceTo_member (s : State) (now : Nat) : (advanceTo s now).member = s.member := rfl
@[simp] theorem advanceTo_channels (s : State) (now : Nat) : (advanceTo s now).channels = s.channels := rfl
@[simp] theorem advanceTo_framePos (s : State) (now : Nat) : (advanceTo s now).framePos = s.framePos := rfl
@[simp] theorem advanceTo_stopLine (s : State) (now : Nat) : (advanceTo s now).stopLine = s.stopLine := rfl
@[simp] theorem advanceTo_console (s : State) (now : Nat) : (advanceTo s now).console = s.console := rfl
@[simp] theorem advanceTo_capture (s : State) (now : Nat) : (advanceTo s now).capture = s.capture := rfl
@[simp] theorem advanceTo_buffer (s : State) (now : Nat) : (advanceTo s now).buffer = s.buffer := rfl
@[simp] theorem advanceTo_port (s : State) (now : Nat) : (advanceTo s now).port = s.port := rfl

/-! ### toSlot -/

@[simp] theorem toSlot_pending (s : State) (k : Nat) : (toSlot s k).pending = s.pending := rfl
@[simp] theorem toSlot_draws (s : State) (k : Nat) : (toSlot s k).draws = s.draws := rfl
@[simp] theorem toSlot_loader (s : State) (k : Nat) : (toSlot s k).loader = s.loader := rfl
@[simp] theorem toSlot_tick (s : State) (k : Nat) : (toSlot s k).tick = s.tick := rfl
@[simp] theorem toSlot_link (s : State) (k : Nat) : (toSlot s k).link = s.link := rfl
@[simp] theorem toSlot_lock (s : State) (k : Nat) : (toSlot s k).lock = s.lock := rfl
@[simp] theorem toSlot_heard (s : State) (k : Nat) : (toSlot s k).heard = s.heard := rfl
@[simp] theorem toSlot_walk (s : State) (k : Nat) : (toSlot s k).walk = s.walk := rfl
@[simp] theorem toSlot_member (s : State) (k : Nat) : (toSlot s k).member = s.member := rfl
@[simp] theorem toSlot_channels (s : State) (k : Nat) : (toSlot s k).channels = s.channels := rfl
@[simp] theorem toSlot_framePos (s : State) (k : Nat) : (toSlot s k).framePos = s.framePos := rfl
@[simp] theorem toSlot_stopLine (s : State) (k : Nat) : (toSlot s k).stopLine = s.stopLine := rfl
@[simp] theorem toSlot_console (s : State) (k : Nat) : (toSlot s k).console = s.console := rfl
@[simp] theorem toSlot_capture (s : State) (k : Nat) : (toSlot s k).capture = s.capture := rfl
@[simp] theorem toSlot_buffer (s : State) (k : Nat) : (toSlot s k).buffer = s.buffer := rfl
@[simp] theorem toSlot_port (s : State) (k : Nat) : (toSlot s k).port = s.port := rfl

/-! ### latchNow -/

@[simp] theorem latchNow_pending (s : State) : (latchNow s).pending = s.pending := rfl
@[simp] theorem latchNow_draws (s : State) : (latchNow s).draws = s.draws := rfl
@[simp] theorem latchNow_loader (s : State) : (latchNow s).loader = s.loader := rfl
@[simp] theorem latchNow_tick (s : State) : (latchNow s).tick = s.tick := rfl
@[simp] theorem latchNow_lock (s : State) : (latchNow s).lock = s.lock := rfl
@[simp] theorem latchNow_heard (s : State) : (latchNow s).heard = s.heard := rfl
@[simp] theorem latchNow_walk (s : State) : (latchNow s).walk = s.walk := rfl
@[simp] theorem latchNow_member (s : State) : (latchNow s).member = s.member := rfl
@[simp] theorem latchNow_channels (s : State) : (latchNow s).channels = s.channels := rfl
@[simp] theorem latchNow_framePos (s : State) : (latchNow s).framePos = s.framePos := rfl
@[simp] theorem latchNow_stopLine (s : State) : (latchNow s).stopLine = s.stopLine := rfl
@[simp] theorem latchNow_console (s : State) : (latchNow s).console = s.console := rfl
@[simp] theorem latchNow_capture (s : State) : (latchNow s).capture = s.capture := rfl
@[simp] theorem latchNow_buffer (s : State) : (latchNow s).buffer = s.buffer := rfl
@[simp] theorem latchNow_port (s : State) : (latchNow s).port = s.port := rfl

/-! ### settleReports -/

@[simp] theorem settleReports_pending (s : State) (r : Reports) : (settleReports s r).pending = s.pending := rfl
@[simp] theorem settleReports_draws (s : State) (r : Reports) : (settleReports s r).draws = s.draws := rfl
@[simp] theorem settleReports_loader (s : State) (r : Reports) : (settleReports s r).loader = s.loader := rfl
@[simp] theorem settleReports_tick (s : State) (r : Reports) : (settleReports s r).tick = s.tick := rfl
@[simp] theorem settleReports_timer (s : State) (r : Reports) : (settleReports s r).timer = s.timer := rfl
@[simp] theorem settleReports_heard (s : State) (r : Reports) : (settleReports s r).heard = s.heard := rfl
@[simp] theorem settleReports_framePos (s : State) (r : Reports) : (settleReports s r).framePos = s.framePos := rfl
@[simp] theorem settleReports_stopLine (s : State) (r : Reports) : (settleReports s r).stopLine = s.stopLine := rfl
@[simp] theorem settleReports_console (s : State) (r : Reports) : (settleReports s r).console = s.console := rfl
@[simp] theorem settleReports_buffer (s : State) (r : Reports) : (settleReports s r).buffer = s.buffer := rfl
@[simp] theorem settleReports_port (s : State) (r : Reports) : (settleReports s r).port = s.port := rfl

/-! ### settleRound -/

@[simp] theorem settleRound_pending (s : State) (r : Reports) : (settleRound s r).pending = s.pending := by unfold settleRound; dsimp only; split <;> rfl
@[simp] theorem settleRound_loader (s : State) (r : Reports) : (settleRound s r).loader = s.loader := by unfold settleRound; dsimp only; split <;> rfl
@[simp] theorem settleRound_tick (s : State) (r : Reports) : (settleRound s r).tick = s.tick := by unfold settleRound; dsimp only; split <;> rfl
@[simp] theorem settleRound_framePos (s : State) (r : Reports) : (settleRound s r).framePos = s.framePos := by unfold settleRound; dsimp only; split <;> rfl
@[simp] theorem settleRound_stopLine (s : State) (r : Reports) : (settleRound s r).stopLine = s.stopLine := by unfold settleRound; dsimp only; split <;> rfl
@[simp] theorem settleRound_console (s : State) (r : Reports) : (settleRound s r).console = s.console := by unfold settleRound; dsimp only; split <;> rfl
@[simp] theorem settleRound_buffer (s : State) (r : Reports) : (settleRound s r).buffer = s.buffer := by unfold settleRound; dsimp only; split <;> rfl
@[simp] theorem settleRound_port (s : State) (r : Reports) : (settleRound s r).port = s.port := by unfold settleRound; dsimp only; split <;> rfl

/-! ### sendMark -/

@[simp] theorem sendMark_pending (s : State) : (sendMark s).pending = s.pending := by unfold sendMark; split <;> rfl
@[simp] theorem sendMark_draws (s : State) : (sendMark s).draws = s.draws := by unfold sendMark; split <;> rfl
@[simp] theorem sendMark_loader (s : State) : (sendMark s).loader = s.loader := by unfold sendMark; split <;> rfl
@[simp] theorem sendMark_tick (s : State) : (sendMark s).tick = s.tick := by unfold sendMark; split <;> rfl
@[simp] theorem sendMark_timer (s : State) : (sendMark s).timer = s.timer := by unfold sendMark; split <;> rfl
@[simp] theorem sendMark_lock (s : State) : (sendMark s).lock = s.lock := by unfold sendMark; split <;> rfl
@[simp] theorem sendMark_heard (s : State) : (sendMark s).heard = s.heard := by unfold sendMark; split <;> rfl
@[simp] theorem sendMark_walk (s : State) : (sendMark s).walk = s.walk := by unfold sendMark; split <;> rfl
@[simp] theorem sendMark_member (s : State) : (sendMark s).member = s.member := by unfold sendMark; split <;> rfl
@[simp] theorem sendMark_channels (s : State) : (sendMark s).channels = s.channels := by unfold sendMark; split <;> rfl
@[simp] theorem sendMark_framePos (s : State) : (sendMark s).framePos = s.framePos := by unfold sendMark; split <;> rfl
@[simp] theorem sendMark_stopLine (s : State) : (sendMark s).stopLine = s.stopLine := by unfold sendMark; split <;> rfl
@[simp] theorem sendMark_console (s : State) : (sendMark s).console = s.console := by unfold sendMark; split <;> rfl
@[simp] theorem sendMark_capture (s : State) : (sendMark s).capture = s.capture := by unfold sendMark; split <;> rfl
@[simp] theorem sendMark_buffer (s : State) : (sendMark s).buffer = s.buffer := by unfold sendMark; split <;> rfl
@[simp] theorem sendMark_port (s : State) : (sendMark s).port = s.port := by unfold sendMark; split <;> rfl

/-! ### giveNotice -/

@[simp] theorem giveNotice_pending (s : State) (n : Byte) : (giveNotice s n).pending = s.pending := rfl
@[simp] theorem giveNotice_draws (s : State) (n : Byte) : (giveNotice s n).draws = s.draws := rfl
@[simp] theorem giveNotice_loader (s : State) (n : Byte) : (giveNotice s n).loader = s.loader := rfl
@[simp] theorem giveNotice_tick (s : State) (n : Byte) : (giveNotice s n).tick = s.tick := rfl
@[simp] theorem giveNotice_timer (s : State) (n : Byte) : (giveNotice s n).timer = s.timer := rfl
@[simp] theorem giveNotice_link (s : State) (n : Byte) : (giveNotice s n).link = s.link := rfl
@[simp] theorem giveNotice_lock (s : State) (n : Byte) : (giveNotice s n).lock = s.lock := rfl
@[simp] theorem giveNotice_heard (s : State) (n : Byte) : (giveNotice s n).heard = s.heard := rfl
@[simp] theorem giveNotice_member (s : State) (n : Byte) : (giveNotice s n).member = s.member := rfl
@[simp] theorem giveNotice_channels (s : State) (n : Byte) : (giveNotice s n).channels = s.channels := rfl
@[simp] theorem giveNotice_framePos (s : State) (n : Byte) : (giveNotice s n).framePos = s.framePos := rfl
@[simp] theorem giveNotice_stopLine (s : State) (n : Byte) : (giveNotice s n).stopLine = s.stopLine := rfl
@[simp] theorem giveNotice_console (s : State) (n : Byte) : (giveNotice s n).console = s.console := rfl
@[simp] theorem giveNotice_buffer (s : State) (n : Byte) : (giveNotice s n).buffer = s.buffer := rfl
@[simp] theorem giveNotice_port (s : State) (n : Byte) : (giveNotice s n).port = s.port := rfl

/-! ### What the changed fields become -/

/-- The timer reads the moment given, never less than before and never past the rollover. -/
theorem advanceTo_timer (s : State) (now : Nat) :
    (advanceTo s now).timer =
      { s.timer with phase := min (max s.timer.phase now) (roundTicks s.loader.settings - 1) } := rfl

@[simp] theorem latchNow_latched (s : State) : (latchNow s).link.latched = latchBlocks s := rfl
@[simp] theorem latchNow_line (s : State) : (latchNow s).link.line = s.link.line := rfl

/-- What membership control makes of the reports of an event with no round start. -/
theorem settleReports_member (s : State) (r : Reports) :
    (settleReports s r).member = (memberReact s.member s.lock.state r none false).member := rfl

theorem settleReports_lock (s : State) (r : Reports) :
    (settleReports s r).lock =
      if (memberReact s.member s.lock.state r none false).excludedNow then lockExcluded s.lock else s.lock := rfl

theorem settleReports_walk (s : State) (r : Reports) :
    (settleReports s r).walk =
      if (memberReact s.member s.lock.state r none false).islandedNow then islandZero s.walk else s.walk := rfl

theorem settleReports_channels (s : State) (r : Reports) :
    (settleReports s r).channels =
      if (memberReact s.member s.lock.state r none false).excludedNow then s.channels.map exclusionNotice
      else s.channels := rfl

/-- With nothing to report membership stays. -/
theorem memberReact_nothing (m : Membership) (l : LockState) (om : Bool) :
    memberReact m l Reports.nothing none om = MemberOut.keep m := by
  unfold memberReact Reports.nothing memberInDivision memberIslanded omitsNow
  cases h : m.state <;> simp

/-- An event with nothing to report and no round start leaves membership, lock, walk and channels. -/
theorem settleReports_nothing (s : State) :
    (settleReports s Reports.nothing).member = s.member ∧ (settleReports s Reports.nothing).lock = s.lock ∧
    (settleReports s Reports.nothing).walk = s.walk ∧ (settleReports s Reports.nothing).channels = s.channels := by
  rw [settleReports_member, settleReports_lock, settleReports_walk, settleReports_channels, memberReact_nothing]
  exact ⟨rfl, rfl, rfl, rfl⟩

theorem settleRound_member (s : State) (r : Reports) :
    (settleRound s r).member =
      (memberReact s.member s.lock.state r (some s.heard.omission) (Config.freeIslandOmitted s.draws)).member := by
  unfold settleRound; dsimp only; split <;> rfl

theorem settleRound_lock (s : State) (r : Reports) :
    (settleRound s r).lock =
      if (memberReact s.member s.lock.state r (some s.heard.omission) (Config.freeIslandOmitted s.draws)).excludedNow
      then lockExcluded s.lock else s.lock := by
  unfold settleRound; dsimp only; split <;> rfl

theorem settleRound_heard (s : State) (r : Reports) : (settleRound s r).heard = clearRound s.heard := by
  unfold settleRound; dsimp only; split <;> rfl

theorem settleRound_draws (s : State) (r : Reports) : (settleRound s r).draws = s.draws + 1 := by
  unfold settleRound; dsimp only; split <;> rfl

theorem settleRound_phase (s : State) (r : Reports) : (settleRound s r).timer.phase = s.timer.phase := by
  unfold settleRound; dsimp only; split <;> rfl

theorem settleRound_roundNumber (s : State) (r : Reports) : (settleRound s r).timer.round = s.timer.round := by
  unfold settleRound; dsimp only; split <;> rfl

theorem settleRound_walk (s : State) (r : Reports) :
    (settleRound s r).walk =
      takeResult s.loader.settings.floor (cautionReport s.walk s.heard.disagreement).1
        (memberReact s.member s.lock.state r (some s.heard.omission) (Config.freeIslandOmitted s.draws)).member.state
        (zeroesGrants r
          (memberReact s.member s.lock.state r (some s.heard.omission) (Config.freeIslandOmitted s.draws))) := by
  unfold settleRound; dsimp only; split <;> rfl

@[simp] theorem grantsTaken_zeros (f : Nat) (w : WalkUnit) (m : MemberState) : grantsTaken f w m true = Quad.same 0 := rfl

/-- A round start that islands the station, or excludes it with a loss of lock, gives zero grants (R50, R56). -/
theorem settleRound_grants_zero (s : State) (r : Reports)
    (h : zeroesGrants r
      (memberReact s.member s.lock.state r (some s.heard.omission) (Config.freeIslandOmitted s.draws)) = true) :
    (settleRound s r).walk.grants = Quad.same 0 := by
  rw [settleRound_walk, h]; rfl

/-- A hall mismatch reported with a loss of lock at a station not yet EXCLUDED gives zero grants at the round start (R56). -/
theorem settleRound_grants_excluded (s : State) (r : Reports) (n : Byte) (hm : r.mismatch = some n) (hl : r.lost = true)
    (hs : s.member.state ≠ .excluded) : (settleRound s r).walk.grants = Quad.same 0 := by
  apply settleRound_grants_zero
  unfold zeroesGrants memberReact
  cases h : s.member.state <;> simp_all [enterExcluded]

/-! ### Channels under link events -/

/-- A starved round touches only the starved-round count (R112). -/
theorem starveChannel_keeps (d g : Int) (ch : Channel) :
    ∃ n, starveChannel d g ch =
      { ch with sequencer := { ch.sequencer with counters := { ch.sequencer.counters with starved := n } } } := by
  unfold starveChannel
  split
  · exact ⟨_, rfl⟩
  · exact ⟨ch.sequencer.counters.starved, rfl⟩

/-- The exclusion notice touches only the run request and the stop request (R67). -/
theorem exclusionNotice_keeps (ch : Channel) :
    ∃ rr sr, exclusionNotice ch = { ch with runRequest := rr, stopRequest := sr } := by
  rcases ch with ⟨st, rr, rp, sr⟩
  cases st <;> first
    | exact ⟨_, _, rfl⟩
    | (dsimp only [exclusionNotice, postSecure]
       split <;> exact ⟨_, _, rfl⟩)

end Sys2Proof.Machine
end

