-- ==== Sys2Proof/Laws/Period.lean ====
section
/-! SUPPORT. What a control period touches, and what its stages can answer (R75, R83, R99). -/

namespace Sys2Proof.Machine

/-! ### The station -/

@[simp] theorem periodState_pending (s : State) (inp : PeriodInput) : (periodState s inp).pending = s.pending := by
  unfold periodState; split <;> rfl
@[simp] theorem periodState_draws (s : State) (inp : PeriodInput) : (periodState s inp).draws = s.draws := by
  unfold periodState; split <;> rfl
@[simp] theorem periodState_loader (s : State) (inp : PeriodInput) : (periodState s inp).loader = s.loader := by
  unfold periodState; split <;> rfl
@[simp] theorem periodState_timer (s : State) (inp : PeriodInput) : (periodState s inp).timer = s.timer := by
  unfold periodState; split <;> rfl
@[simp] theorem periodState_link (s : State) (inp : PeriodInput) : (periodState s inp).link = s.link := by
  unfold periodState; split <;> rfl
@[simp] theorem periodState_lock (s : State) (inp : PeriodInput) : (periodState s inp).lock = s.lock := by
  unfold periodState; split <;> rfl
@[simp] theorem periodState_heard (s : State) (inp : PeriodInput) : (periodState s inp).heard = s.heard := by
  unfold periodState; split <;> rfl
@[simp] theorem periodState_walk (s : State) (inp : PeriodInput) : (periodState s inp).walk = s.walk := by
  unfold periodState; split <;> rfl
@[simp] theorem periodState_member (s : State) (inp : PeriodInput) : (periodState s inp).member = s.member := by
  unfold periodState; split <;> rfl
@[simp] theorem periodState_console (s : State) (inp : PeriodInput) : (periodState s inp).console = s.console := by
  unfold periodState; split <;> rfl
@[simp] theorem periodState_buffer (s : State) (inp : PeriodInput) : (periodState s inp).buffer = s.buffer := by
  unfold periodState; split <;> rfl
@[simp] theorem periodState_port (s : State) (inp : PeriodInput) : (periodState s inp).port = s.port := by
  unfold periodState; split <;> rfl

/-- Every control period advances the tick count (R166). -/
@[simp] theorem periodState_tick (s : State) (inp : PeriodInput) : (periodState s inp).tick = s.tick + 1 := by
  unfold periodState; split <;> rfl

/-- A channel after a control period in READY. -/
theorem periodState_channel (s : State) (inp : PeriodInput) (h : isReady s = true) (k : Fin 4) :
    (periodState s inp).channels.get k = (channelOut s inp k).ch := by
  unfold periodState; rw [if_pos h]; exact Quad.get_tab _ k

/-- Before READY no channel is touched (R74). -/
theorem periodState_channels_rest (s : State) (inp : PeriodInput) (h : isReady s = false) :
    (periodState s inp).channels = s.channels := by
  unfold periodState; rw [if_neg (by simp [h])]; rfl

/-- The station queue is not touched, and each channel queue takes its channel's entries in order. -/
theorem periodState_station (s : State) (inp : PeriodInput) :
    (periodState s inp).capture.station = s.capture.station := by
  unfold periodState; split <;> rfl

theorem periodState_queue (s : State) (inp : PeriodInput) (h : isReady s = true) (k : Fin 4) :
    (periodState s inp).capture.channels.get k =
      offerAll (s.capture.channels.get k) (channelOut s inp k).entries := by
  unfold periodState; rw [if_pos h]; exact Quad.get_tab _ k

/-- A control period keeps the bounds of the queues. -/
theorem periodState_captureInv (s : State) (inp : PeriodInput) (h : CaptureInv s.capture) :
    CaptureInv (periodState s inp).capture := by
  refine ⟨fun k => ?_, ?_⟩
  · by_cases hr : isReady s = true
    · rw [periodState_queue s inp hr]; exact offerAll_inv _ _ (h.1 k)
    · have : (periodState s inp).capture = s.capture := by unfold periodState; rw [if_neg hr]; rfl
      rw [this]; exact h.1 k
  · rw [periodState_station]; exact h.2

/-- A disabled channel is not touched (R74). -/
theorem channelOut_disabled (s : State) (inp : PeriodInput) (k : Fin 4)
    (h : (s.loader.settings.channels.get k).enable = false) :
    (channelOut s inp k).ch = s.channels.get k ∧ (channelOut s inp k).entries = [] := by
  unfold channelOut
  rw [if_neg (by simp [h])]
  exact ⟨rfl, rfl⟩

/-! ### Stages 4 and 5 -/

/-- The drive stage keeps the state and the setpoint. -/
@[simp] theorem driveOutputs_state (ch : Channel) : (driveOutputs ch).state = ch.state := by
  unfold driveOutputs; cases h : ch.state <;> simp

@[simp] theorem driveOutputs_setpoint (ch : Channel) : (driveOutputs ch).setpoint = ch.setpoint := by
  unfold driveOutputs; cases h : ch.state <;> rfl

@[simp] theorem driveOutputs_feedback (ch : Channel) : (driveOutputs ch).feedback = ch.feedback := by
  unfold driveOutputs; cases h : ch.state <;> rfl

/-- The converter is enabled in RUNNING, HELD and STOPPING alone (R83). -/
theorem driveOutputs_enabled (ch : Channel) : (driveOutputs ch).enabled = regulates ch.state := by
  unfold driveOutputs; cases h : ch.state <;> rfl

/-- The contactor is driven closed in CLOSING, RUNNING, HELD and STOPPING (R83). -/
theorem driveOutputs_drive (ch : Channel) :
    (driveOutputs ch).drive = (decide (ch.state = .closing) || regulates ch.state) := by
  unfold driveOutputs; cases h : ch.state <;> rfl

@[simp] theorem regulate_state (e : RegulateEnv) (ch : Channel) : (regulate e ch).state = ch.state := by
  unfold regulate; split <;> rfl

@[simp] theorem regulate_feedback (e : RegulateEnv) (ch : Channel) : (regulate e ch).feedback = ch.feedback := by
  unfold regulate; split <;> rfl

/-- The setpoint is 0 outside RUNNING, HELD and STOPPING (R99). -/
theorem regulate_rests (e : RegulateEnv) (ch : Channel) (h : regulates ch.state = false) :
    (regulate e ch).setpoint = 0 := by
  unfold regulate; rw [if_neg (by simp [h])]

/-- The setpoint lies in the envelope when the limited target does (R105, R106). -/
theorem regulate_within (e : RegulateEnv) (ch : Channel) (h : regulates ch.state = true)
    (ht : envelopeBottom e.lim e.q e.grant e.v ≤
        grantLimit e.q e.grant e.v (bandLimit e.lim (baseTarget e ch.state (cvOf e ch.state ch.regulator.cv))) ∧
      grantLimit e.q e.grant e.v (bandLimit e.lim (baseTarget e ch.state (cvOf e ch.state ch.regulator.cv))) ≤
        envelopeTop e.lim e.q e.grant e.v) :
    envelopeBottom e.lim e.q e.grant e.v ≤ (regulate e ch).setpoint ∧
      (regulate e ch).setpoint ≤ envelopeTop e.lim e.q e.grant e.v := by
  have hz := envelope_zero e.lim e.q e.grant e.v
  unfold regulate
  rw [if_pos h]
  exact rampSetpoint_within _ _ _ _ _ _ hz (cutSetpoint_within _ _ _ hz) ht

@[simp] theorem disarm_state (ch : Channel) : (disarm ch).state = ch.state := rfl
@[simp] theorem disarm_setpoint (ch : Channel) : (disarm ch).setpoint = ch.setpoint := rfl
@[simp] theorem disarm_enabled (ch : Channel) : (disarm ch).enabled = ch.enabled := rfl
@[simp] theorem disarm_drive (ch : Channel) : (disarm ch).drive = ch.drive := rfl
@[simp] theorem disarm_feedback (ch : Channel) : (disarm ch).feedback = ch.feedback := rfl

/-- The outputs of a period by the state that stage 3 reached (R83, R99). -/
theorem outputStages_outputs (e : PeriodEnv) (w : Work) :
    (outputStages e w).state = w.ch.state ∧
    (outputStages e w).enabled = regulates w.ch.state ∧
    (outputStages e w).drive = (decide (w.ch.state = .closing) || regulates w.ch.state) ∧
    (outputStages e w).feedback = w.ch.feedback ∧
    (regulates w.ch.state = false → (outputStages e w).setpoint = 0) := by
  unfold outputStages
  refine ⟨by simp, ?_, ?_, by simp, fun h => ?_⟩
  · rw [disarm_enabled, driveOutputs_enabled, regulate_state]
  · rw [disarm_drive, driveOutputs_drive, regulate_state]
  · rw [disarm_setpoint, driveOutputs_setpoint, regulate_rests _ _ h]

/-! ### Faults -/

/-- A recorded fault leaves a primary cause, and touches nothing of the channel but the record (R94). -/
theorem recordFault_spec (e : PeriodEnv) (w : Work) (c : Cause) :
    ∃ r fs, recordFault e w c = { w with ch := { w.ch with record := some r }, faults := fs } := by
  unfold recordFault
  cases h : w.ch.record with
  | none => exact ⟨_, _, rfl⟩
  | some r =>
    dsimp only
    split
    · exact ⟨_, _, rfl⟩
    · refine ⟨r, w.faults, ?_⟩
      obtain ⟨ch, a, b, c', d, e', f, g, i⟩ := w
      obtain ⟨_⟩ := ch
      simp_all

/-- A fast stop goes to OPENING with setpoint 0, the pairs cleared, and no stop posted (R87, R142). -/
theorem fastStop_spec (e : PeriodEnv) (r : EndReason) (sr : StepEndReason) (w : Work) :
    (fastStop e r sr w).ch.state = .opening ∧ (fastStop e r sr w).ch.setpoint = 0 ∧
    (fastStop e r sr w).ch.endReason = r ∧ (fastStop e r sr w).ch.stopRequest = .none ∧
    (fastStop e r sr w).ch.live = LivePair.clear ∧ (fastStop e r sr w).ch.staged = StagedPair.clear ∧
    (fastStop e r sr w).ch.openTimer = 0 := by
  exact ⟨rfl, rfl, rfl, rfl, rfl, rfl, rfl⟩

/-- A secure stop goes to STOPPING with the pairs cleared, the confirmation held and no stop posted (R85, R142, R156). -/
theorem secureStop_spec (e : PeriodEnv) (r : EndReason) (w : Work) :
    (secureStop e r w).ch.state = .stopping ∧ (secureStop e r w).ch.endReason = r ∧
    (secureStop e r w).ch.stopRequest = .none ∧ (secureStop e r w).ch.confirmed = true ∧
    (secureStop e r w).ch.live = LivePair.clear ∧ (secureStop e r w).ch.staged = StagedPair.clear := by
  exact ⟨rfl, rfl, rfl, rfl, rfl, rfl⟩

/-- A persistence count stays at or below its persistence, and is 0 where the cause is not armed (R92). -/
theorem persist_spec (armed cond : Bool) (top n : Nat) :
    (persist armed cond top n).1 ≤ top ∧ (armed = false → persist armed cond top n = (0, false)) := by
  unfold persist
  constructor
  · split
    · exact Nat.min_le_right _ _
    · exact Nat.zero_le _
  · intro h; simp [h]

end Sys2Proof.Machine
end

