-- ==== Sys2Proof/Laws/Port.lean ====
section
/-! SUPPORT. The logger port word by word (R161), the console's channel loop (R145), and which commands can stop. -/

namespace Sys2Proof.Machine

/-! ### The logger port -/

/-- The port takes a new command: no answer is being sent, none waits, and no word of a command is held. -/
def portIdle (s : State) : Prop := s.port.answering = false ∧ s.port.deferred = false ∧ s.port.partialWords = []

/-- While an answer is being sent or waits, a word is discarded (R161). -/
theorem portWord_busy (writing : Bool) (s : State) (w : Word) (h : s.port.answering = true ∨ s.port.deferred = true) :
    portWord writing s w = s := by
  unfold portWord
  rcases h with h | h <;> simp [h]

/-- While an answer is being sent or waits, every word is discarded (R161). -/
theorem portWords_busy (writing : Bool) (ws : List Word) (s : State)
    (h : s.port.answering = true ∨ s.port.deferred = true) : portWords writing ws s = s := by
  unfold portWords
  induction ws with
  | nil => rfl
  | cons w ws ih => rw [List.foldl_cons, portWord_busy writing s w h, ih]

/-- The first word of a command. -/
theorem portWord_idle (writing : Bool) (s : State) (w : Word) (h : portIdle s) :
    portWord writing s w = commandWords writing [w] s := by
  unfold portWord
  rw [h.1, h.2.1, h.2.2]
  rfl

/-- A STATUS on an idle port is answered at once (R162). -/
theorem portWords_status (s : State) (h : portIdle s) : portWords false [1] s = doStatus s := by
  show portWord false s 1 = doStatus s
  rw [portWord_idle _ _ _ h]
  rfl

/-- A FLUSH on an idle port is taken at once, or waits for the entry being written (R165). -/
theorem portWords_flush (writing : Bool) (s : State) (h : portIdle s) :
    portWords writing [4] s =
      if writing then s.setPort { s.port with partialWords := [], deferred := true } else doFlush s := by
  show portWord writing s 4 = _
  rw [portWord_idle _ _ _ h]
  rfl

/-- A RELEASE with its argument on an idle port is taken (R164). -/
theorem portWords_release (a : Word) (s : State) (h : portIdle s) :
    portWords false [3, a] s = doRelease a (waitWords [3] s) := by
  show portWord false (portWord false s 3) a = _
  rw [portWord_idle _ _ _ h]
  show portWord false (waitWords [3] s) a = _
  unfold portWord
  have h1 : (waitWords [3] s).port.answering = false := h.1
  have h2 : (waitWords [3] s).port.deferred = false := h.2.1
  rw [h1, h2]
  rfl

/-- A READ with its three arguments on an idle port is taken (R163). -/
theorem portWords_read (a o c : Word) (s : State) (h : portIdle s) :
    portWords false [2, a, o, c] s = doRead a o c (waitWords [2, a, o] s) := by
  show portWord false (portWord false (portWord false (portWord false s 2) a) o) c = _
  rw [portWord_idle _ _ _ h]
  show portWord false (portWord false (portWord false (waitWords [2] s) a) o) c = _
  have e1 : portWord false (waitWords [2] s) a = waitWords [2, a] s := by
    unfold portWord
    have h1 : (waitWords [2] s).port.answering = false := h.1
    have h2 : (waitWords [2] s).port.deferred = false := h.2.1
    rw [h1, h2]
    rfl
  have e2 : portWord false (waitWords [2, a] s) o = waitWords [2, a, o] s := by
    unfold portWord
    have h1 : (waitWords [2, a] s).port.answering = false := h.1
    have h2 : (waitWords [2, a] s).port.deferred = false := h.2.1
    rw [h1, h2]
    rfl
  rw [e1, e2]
  unfold portWord
  have h1 : (waitWords [2, a, o] s).port.answering = false := h.1
  have h2 : (waitWords [2, a, o] s).port.deferred = false := h.2.1
  rw [h1, h2]
  rfl

/-! ### The entry writer -/

/-- A GAP written or not, the buffer keeps its invariant (R160). -/
theorem writeGap_inv (s : State) (h : BufferInv s.buffer) : BufferInv (writeGap s).1.buffer := by
  have hp := place_inv (ws := entryWords (gapEntry s.tick s.capture)) h (entryWords_length _).2
  unfold writeGap
  dsimp only
  split <;> exact hp

/-- An entry written or skipped, the buffer keeps its invariant (R158). -/
theorem writeEntry_inv (n : QueueName) (e : Entry) (s : State) (h : BufferInv s.buffer) :
    BufferInv (writeEntry n e s).buffer := by
  have hp := place_inv (ws := entryWords e) h (entryWords_length e).2
  unfold writeEntry
  dsimp only
  split <;> exact hp

/-- An entry taken by the writer keeps the buffer's invariant (R157 to R160). -/
theorem takeEntry_inv (s : State) (h : BufferInv s.buffer) : BufferInv (takeEntry s).buffer := by
  unfold takeEntry
  split
  · exact h
  · split
    · exact h
    · rename_i n e _
      unfold writeTaken
      split
      · exact h
      · split
        · exact writeEntry_inv n e _ h
        · have hg := writeGap_inv (s.setCapture (popQueue n s.capture)) h
          dsimp only
          split
          · exact writeEntry_inv n e _ hg
          · exact hg

/-! ### Console commands to channels -/

/-- Each reached channel is judged by its own state and the others are left (R145). -/
theorem applyTo_channels (judge : Channel → Judged) (ks : List (Fin 4)) (chs : Quad Channel) (hn : ks.Nodup)
    (k : Fin 4) :
    (applyTo judge ks chs).1.get k = if k ∈ ks then (judge (chs.get k)).ch else chs.get k := by
  induction ks generalizing chs with
  | nil => simp [applyTo]
  | cons j ks ih =>
    have hj : j ∉ ks := (List.nodup_cons.1 hn).1
    unfold applyTo
    dsimp only
    rw [ih _ (List.nodup_cons.1 hn).2]
    by_cases hk : k = j
    · subst hk
      rw [if_neg hj, if_pos (List.mem_cons_self ..), Quad.get_set_self]
    · rw [Quad.get_set_ne _ _ _ _ hk]
      by_cases hm : k ∈ ks
      · rw [if_pos hm, if_pos (List.mem_cons_of_mem _ hm)]
      · rw [if_neg hm, if_neg (by simp [hk, hm])]

/-- The channels a target reaches are distinct. -/
theorem reached_nodup (st : Settings) (target : Nat) : (reached st target).Nodup := by
  unfold reached
  exact List.Nodup.filter _ (by decide)

/-- Which channels a target reaches (R145). -/
theorem mem_reached (st : Settings) (target : Nat) (k : Fin 4) :
    k ∈ reached st target ↔ (st.channels.get k).enable = true ∧ (target = 4 ∨ target = k.val) := by
  unfold reached
  rw [List.mem_filter]
  fin_cases k <;> simp

/-! ### Stops -/

/-- Every command but READ_WORD answers a next state. -/
theorem exec_next (i : Instr) (s : State) (h : i ≠ .readWord) : ∃ t, exec i s = .next t := by
  cases i <;> first
    | exact ⟨_, rfl⟩
    | exact absurd rfl h

/-- READ_WORD answers a next state when its stream points into the RAM. -/
theorem readWord_next (s : State) (h : ∀ st, s.port.stream = some st → st.addr < Config.ramWords) :
    ∃ t, exec .readWord s = .next t := by
  show ∃ t, execReadWord s = .next t
  unfold execReadWord
  cases hs : s.port.stream with
  | none => exact ⟨_, rfl⟩
  | some st =>
    dsimp only
    rw [if_pos (h st hs)]
    exact ⟨_, rfl⟩

end Sys2Proof.Machine
end

