-- ==== Sys2Proof/Laws/Sequencer.lean ====
section
/-! SUPPORT. What the parts of the step sequencer and the capture pacer can answer (R118 to R126, R128, R154, R155). -/

namespace Sys2Proof.Machine

/-! ### Terms (R121, R122) -/

/-- A period changes persistence counts, never how many there are. -/
@[simp] theorem termCounts_length (e : PeriodEnv) (c : Counters) (flag : Bool) (ts : List Term) (ns : List Nat) :
    (termCounts e c flag ts ns).length = ns.length := by
  induction ts generalizing ns with
  | nil => cases ns <;> rfl
  | cons t ts ih =>
    cases ns with
    | nil => rfl
    | cons n ns => simp [termCounts, ih]

/-- The persistence count at a place with a term. -/
theorem termCounts_at (e : PeriodEnv) (c : Counters) (flag : Bool) {ts : List Term} {ns : List Nat} {j : Nat} {t : Term}
    {n : Nat} (ht : ts[j]? = some t) (hn : ns[j]? = some n) :
    (termCounts e c flag ts ns)[j]? = some (termCount e c flag t n) := by
  induction ts generalizing ns j with
  | nil => simp at ht
  | cons t' ts ih =>
    cases ns with
    | nil => simp at hn
    | cons n' ns =>
      cases j with
      | zero => simp_all [termCounts]
      | succ j =>
        simp only [List.getElem?_cons_succ] at ht hn
        simpa [termCounts] using ih ht hn

/-- No term is satisfied exactly where none is at any place. -/
theorem firstSatisfied_none (e : PeriodEnv) (c : Counters) (pos : Nat) (ts : List Term) (ns : List Nat) :
    firstSatisfied e c pos ts ns = none ↔
      ∀ (j : Nat) (t : Term) (n : Nat), ts[j]? = some t → ns[j]? = some n → termSatisfied e c t n = false := by
  induction ts generalizing ns pos with
  | nil => simp [firstSatisfied]
  | cons t ts ih =>
    cases ns with
    | nil => simp [firstSatisfied]
    | cons n ns =>
      unfold firstSatisfied
      by_cases h : termSatisfied e c t n = true
      · rw [if_pos h]
        exact ⟨nofun, fun a => by have := a 0 t n rfl rfl; simp [h] at this⟩
      · rw [if_neg h, ih]
        constructor
        · intro a j
          cases j with
          | zero => rintro _ _ ⟨⟩ ⟨⟩; simpa using h
          | succ j => exact a j
        · exact fun a j => a (j + 1)

/-- The satisfied term that is taken is the first in list order, with its place and its action. -/
theorem firstSatisfied_some (e : PeriodEnv) (c : Counters) (pos : Nat) (ts : List Term) (ns : List Nat) (j : Nat) (t : Term)
    (n : Nat) (ht : ts[j]? = some t) (hn : ns[j]? = some n) (hs : termSatisfied e c t n = true)
    (first : ∀ (i : Nat) (t' : Term) (n' : Nat), i < j → ts[i]? = some t' → ns[i]? = some n' → termSatisfied e c t' n' = false) :
    firstSatisfied e c pos ts ns = some (pos + j, t.action) := by
  induction ts generalizing ns pos j with
  | nil => simp at ht
  | cons t' ts ih =>
    cases ns with
    | nil => simp at hn
    | cons n' ns =>
      unfold firstSatisfied
      cases j with
      | zero => simp_all
      | succ j =>
        simp only [List.getElem?_cons_succ] at ht hn
        rw [if_neg (by simp [first 0 t' n' (by omega) rfl rfl]),
          ih (pos + 1) ns j ht hn fun i a b hi ha hb => first (i + 1) a b (by omega) ha hb]
        congr 2; omega

/-! ### Destinations (R123 to R126) -/

/-- A destination that is a step is a working step of the program. -/
theorem resolve_step {steps : List Step} {fuel d : Nat} {stack : List LoopEntry} {cycles j : Nat}
    (h : (resolve steps fuel d stack cycles).dest = .step j) : ∃ s, steps[j]? = some s ∧ s.kind.working = true := by
  induction fuel generalizing d stack cycles with
  | zero => simp [resolve] at h
  | succ fuel ih =>
    unfold resolve at h
    split at h
    · simp at h
    · next s hs =>
      split at h
      · simp at h
      · exact ih h
      · next hf hl =>
        injection h with h
        refine ⟨s, h ▸ hs, ?_⟩
        cases hk : s.kind <;> first | rfl | exact absurd hk hf | exact absurd hk (hl _ _ _)

/-- The pops of a GOTO, entry by entry. -/
theorem gotoPops_cons (steps : List Step) (t : Nat) (x : LoopEntry) (stack : List LoopEntry) :
    gotoPops steps t (x :: stack) = if entryHolds steps t x then x :: gotoPops steps t stack else gotoPops steps t stack := by
  unfold gotoPops; rw [List.filter_cons]

/-- An entry is kept exactly where its loop's range contains the target. -/
theorem entryHolds_iff (steps : List Step) (t : Nat) (x : LoopEntry) :
    entryHolds steps t x = true ↔
      ∃ st target m n, steps[x.loop]? = some st ∧ st.kind = .loop target m n ∧ target ≤ t ∧ t ≤ x.loop := by
  unfold entryHolds
  constructor
  · intro h
    split at h
    · next target m n _ _ _ _ hs =>
      simp only [Bool.and_eq_true, decide_eq_true_eq] at h
      exact ⟨_, target, m, n, hs, rfl, h⟩
    · cases h
  · rintro ⟨⟨k, _, _, _, _⟩, target, m, n, hs, rfl, h⟩
    rw [hs]; simpa using h

/-! ### Step ends and entries (R118, R128) -/

/-- A step that is current and has not ended ends with one STEP_END entry; nothing else of the channel changes. -/
theorem endStep_open (e : PeriodEnv) (r : StepEndReason) (w : Work) {i : Nat} (hi : w.ch.sequencer.index = some i)
    (he : w.ch.sequencer.ended = false) :
    endStep e r w = { w with
      ch := { w.ch with sequencer := { w.ch.sequencer with ended := true } }
      ends := w.ends ++ [Entry.stepEnd e.k e.tick i r w.ch.sequencer.counters.time
        (chargeMah w.ch.sequencer.counters.charge) (energyWh w.ch.sequencer.counters.energy)
        w.ch.sequencer.counters.starved w.ch.sequencer.cycles] } := by
  unfold endStep; rw [hi]; simp [he]

/-- Where no step was entered, or it has ended, nothing ends. -/
theorem endStep_closed (e : PeriodEnv) (r : StepEndReason) (w : Work)
    (h : w.ch.sequencer.index = none ∨ w.ch.sequencer.ended = true) : endStep e r w = w := by
  unfold endStep
  rcases h with h | h
  · rw [h]
  · split
    · rfl
    · rw [if_pos h]

/-- A step entry leaves the channel's state and the entries made so far. -/
theorem enterStep_keeps (i : Nat) (s : Step) (stack : List LoopEntry) (cycles : Nat) (w : Work) :
    (enterStep i s stack cycles w).ch.state = w.ch.state ∧ (enterStep i s stack cycles w).faults = w.faults ∧
    (enterStep i s stack cycles w).ends = w.ends ∧ (enterStep i s stack cycles w).runs = w.runs ∧
    (enterStep i s stack cycles w).entered = true := by
  refine ⟨?_, rfl, rfl, rfl, rfl⟩
  unfold enterStep stagePulse
  cases s.kind <;> rfl

/-! ### The capture pacer (R155) -/

/-- The accumulator and the step value stay in 0..1023. -/
theorem pacerWork_fits (p : Pacer) (h : PacerFits p) : PacerFits (pacerWork p).1 := by
  obtain ⟨ha, hd⟩ := h
  unfold pacerWork PacerFits
  simp only [Config.captureTop] at *
  split
  · exact ⟨ha, hd⟩
  · by_cases h : 1023 < p.acc + 1 <;> simp only [h, if_true, if_false] <;> omega
  · by_cases h : 1023 < p.acc + p.d <;> simp only [h, if_true, if_false] <;> omega

/-- The capture touches the pacer and the SAMPLE entries alone. -/
theorem captureStage_keeps (e : PeriodEnv) (w : Work) :
    (captureStage e w).ch = { w.ch with pacer := (captureStage e w).ch.pacer } ∧ (captureStage e w).faults = w.faults ∧
    (captureStage e w).ends = w.ends ∧ (captureStage e w).runs = w.runs ∧ (captureStage e w).entered = w.entered ∧
    (captureStage e w).pulse = w.pulse := by
  unfold captureStage
  split <;> exact ⟨rfl, rfl, rfl, rfl, rfl, rfl⟩

end Sys2Proof.Machine
end

