-- ==== Sys2Proof/WellFormed.lean ====
section
/-! DEFINITION. Which commands the outside world can send: operand ranges that the formats of chapter 11 and the sequence of
events of the table leave. `exec` gives every command a meaning, well-formed or not (log 26). -/

namespace Sys2Proof

/-- A measured current lies in -30000..30000 codes and a measured temperature in -400..1500 codes (section 1.5). -/
def ChannelInput.wellFormed (c : ChannelInput) : Bool :=
  decide (-30000 ≤ c.i.toInt ∧ c.i.toInt ≤ 30000) && decide (-400 ≤ c.t.toInt ∧ c.t.toInt ≤ 1500)

/-- The inputs of a control period. -/
def PeriodInput.wellFormed (p : PeriodInput) : Bool := p.channels.toList.all ChannelInput.wellFormed

/-- Time passes between a frame's first byte and the end of its check (R4). -/
def Arrival.wellFormed (a : Arrival) : Bool := decide (0 < a.elapsed)

/-- Each cause of a round start or of a missed mark carries a well-formed arrival. -/
def RoundCause.wellFormed : RoundCause → Bool
  | .rollover => true
  | .mark _ arr => arr.wellFormed

/-- The codes of the four commands of the logger port (R161). -/
def portCodes : List Word := [1, 2, 3, 4]

/-- Whether a command can be sent. -/
def Instr.wellFormed : Instr → Bool
  | .reset => true
  | .profileHeaderRead header => decide (header.length = Config.headerBytes)
  | .profileReadComplete rest => decide (rest.length ≤ Config.maxProfile - Config.headerBytes)
  | .controlPeriod inp => inp.wellFormed
  | .stopLevelChange inp => inp.wellFormed
  | .filterLevelChange inp => inp.wellFormed
  | .persistenceDetect inp => inp.wellFormed
  | .closeLimit inp => inp.wellFormed
  | .openLimit inp => inp.wellFormed
  | .frameBoundary inp => inp.wellFormed
  | .sampleCapture inp => inp.wellFormed
  | .roundStart => true
  | .selfStart => true
  | .cautionOff cause => cause.wellFormed
  | .islandedOmitted cause => cause.wellFormed
  | .rejoin cause => cause.wellFormed
  | .demandLatch => true
  | .shareFrameSend => true
  | .walkStart => true
  | .walkCompletion => true
  | .markReceived _ arr => arr.wellFormed
  | .enterLocked _ arr => arr.wellFormed
  | .markWindowPasses => true
  | .coastLimit _ => true
  | .returnToSearch => true
  | .markReadback _ => true
  | .claimFailed _ => true
  | .shareReadback _ => true
  | .numberConflict _ => true
  | .shareReceived _ arr => arr.wellFormed
  | .frameCheckFailed bytes => !Machine.frameChecks bytes
  | .start _ arr => arr.wellFormed
  | .abort _ arr => arr.wellFormed
  | .forceStop _ arr => arr.wellFormed
  | .hold _ arr => arr.wellFormed
  | .resume _ arr => arr.wellFormed
  | .clearFault _ arr => arr.wellFormed
  | .setHoldMode _ arr => arr.wellFormed
  | .nextStep _ arr => arr.wellFormed
  | .noCommand _ arr => arr.wellFormed
  | .entryWriterTake => true
  | .status => true
  | .read args => decide (args.length ≤ 3)
  | .readWord => true
  | .release args => decide (args.length ≤ 1)
  | .flush _ => true
  | .deferredFlush => true
  | .unknownCommandWord w => !portCodes.contains w
  | .commandTimeout => true
  | .answerLastByteSent => true

end Sys2Proof
end

