-- ==== Sys2Proof/Tests/Slice0.lean ====
section
/-! SUPPORT. The model's own tests: an ill-formed command for every check of WellFormed, worked figures of the spec, one
step of each kind of command on small states, and for every statement with hypotheses a state and operands that meet them. -/

namespace Sys2Proof.Tests

/- The tests are elaborated one after another: each waits for the kernel, and waiting side by side costs a thread each. -/
set_option Elab.async false

open Sys2Proof Sys2Proof.Machine

/-! ### Small states -/

/-- A channel's settings: FREEZE, ramp 1000, cv step 10, tolerance 100, limits of 5 periods. -/
def cset : ChannelSettings := ⟨true, .freeze, 1000, 10, 100, 5, 5⟩

/-- The limits of every band. -/
def lims : Limits := ⟨5000, 3500, 45000, 30000, 450⟩

/-- The settings of station `n`; channel 3 is disabled. -/
def setup (n : Nat) : Settings where
  station := n
  aIsl := 15
  pFrame := 4
  channels := ⟨cset, cset, cset, { cset with enable := false }⟩
  pRound := 8
  q := 500
  lImp := 40
  lExp := 30
  guard := 10
  floor := 20
  window := 20
  t1 := 250
  t2 := 350
  t3 := 400
  hyst := 20
  bands := Quad.same (Quad.same lims)

/-- A program: charge, rest of two periods, pulse, end. -/
def prog : Program :=
  ⟨true, [⟨.chargeCC 4000, 1, .interval, 1000, []⟩, ⟨.rest, 0, .off, 0, [⟨.stepTime, true, 2, .next⟩]⟩,
    ⟨.pulse 300 100 2, 1, .fraction, 1000, []⟩, ⟨.chargeCV 41000 4000, 0, .off, 0, []⟩, ⟨.finish, 0, .off, 0, []⟩]⟩

/-- A program whose first step is END. -/
def progEnd : Program := ⟨true, [⟨.finish, 0, .off, 0, []⟩]⟩

/-- Station 2 in READY, as the loader left it. -/
def ready : State :=
  (State.reset.setLoader ⟨.ready, [], 0x1234, setup 2, [prog, progEnd] ++ List.replicate 6 Program.absent⟩).setLock
    ⟨.search, 6, 0, 0, false, 0, 0⟩

/-- A channel in a state, in step `i` of program 0, its contactor closed where the state needs it. -/
def chan (st : ChannelState) (i : Nat) : Channel :=
  { Channel.reset with
    state := st, band := some 0, feedback := ⟨regulates st, 0⟩, enabled := regulates st, drive := regulates st
    sequencer := ⟨some 0, some i, false, [], Counters.zero, false, 0⟩ }

/-- The ready station with a channel 0. -/
def with0 (c : Channel) : State := ready.setChannels (ready.channels.set 0 c)

/-- A quiet control period: 400.00 V, 20.0 degrees, contactor feedback as given. -/
def quiet (closed : Bool) : PeriodInput := ⟨false, Quad.same ⟨40000, 0, 200, closed, false, true⟩⟩

/-- A control period with the given measured words and closed contactors. -/
def meas (v i t : Word) : PeriodInput := ⟨false, Quad.same ⟨v, i, t, true, false, true⟩⟩

/-- The station with a lock unit. -/
def locked (pacer : Bool) (missed : Nat) : State := ready.setLock ⟨.locked, 0, 32, missed, pacer, 0, 0⟩

/-- A station in a membership state. -/
def member (s : State) (m : MemberState) (confirmed : Bool) (omissions dwell fails : Nat) : State :=
  s.setMember ⟨m, confirmed, 1, omissions, dwell, fails⟩

/-- A mark of station `n` with round number 7. -/
def mark (n : Byte) : MarkFrame := ⟨n, 7, 0x1234⟩

/-- In-window after the own rollover, in-window before it, out of every window, for a timer at phase 0. -/
def after : Arrival := ⟨160, 150⟩
def before : Arrival := ⟨127990, 100⟩
def far : Arrival := ⟨5000, 100⟩

/-- The station with an open mark window. -/
def opened (s : State) : State := s.setTimer ⟨0, 6, false, false⟩

/-- A console frame of node 1 to station 2 in slot 49. -/
def con (channel : Byte) (arg : Word) : ConsoleFrame := ⟨1, 2, channel, arg⟩
def slot49 : Arrival := ⟨98500, 400⟩

/-- A share frame of station 3 in slot 3 of round 0. -/
def share3 (map : BitVec 48) : ShareFrame := ⟨3, 0, 2, 0x1234, map, Quad.same ⟨200, 2, 8⟩, 0⟩
def slot3 : Arrival := ⟨7000, 900⟩

/-- The own share frame on the line, cut off or not. -/
def sent (cut : Bool) (s : State) : State := s.setLink { s.link with line := some (.share (share3 0) cut) }

/-- The own mark on the line, cut off or not. -/
def marked (cut : Bool) (s : State) : State := s.setLink { s.link with line := some (.mark (mark 2) cut) }

/-- Whether a command answers a next state with a property. -/
def yields (o : Host.Outcome State Fault Refusal) (p : State → Bool) : Bool :=
  match o with
  | .next t => p t
  | .fault _ => false
  | .refused _ => false

/-! ### WellFormed: an ill-formed command for each check -/

def current30001 : PeriodInput := meas 0 30001 0
def currentLow : PeriodInput := meas 0 (BitVec.ofInt 16 (-30001)) 0
def temp1501 : PeriodInput := meas 0 0 1501
def tempLow : PeriodInput := meas 0 0 (BitVec.ofInt 16 (-401))

theorem test_wellFormed_profile :
    (Instr.profileHeaderRead [0x0A, 0x31, 0]).wellFormed = false ∧
    (Instr.profileHeaderRead [0x0A, 0x31, 0, 253, 0, 0]).wellFormed = true ∧
    (Instr.profileReadComplete (List.replicate 8187 0)).wellFormed = false ∧
    (Instr.profileReadComplete (List.replicate 8186 0)).wellFormed = true := by
  refine ⟨by decide, by decide, ?_, ?_⟩
  · show decide ((List.replicate 8187 (0 : Byte)).length ≤ 8192 - 6) = false
    rw [List.length_replicate]; decide
  · show decide ((List.replicate 8186 (0 : Byte)).length ≤ 8192 - 6) = true
    rw [List.length_replicate]; decide

theorem test_wellFormed_periods :
    [Instr.controlPeriod current30001, .controlPeriod currentLow, .controlPeriod temp1501, .controlPeriod tempLow,
      .stopLevelChange current30001, .filterLevelChange currentLow, .persistenceDetect temp1501, .closeLimit tempLow,
      .openLimit current30001, .frameBoundary currentLow, .sampleCapture temp1501].all (fun i => !i.wellFormed) = true ∧
    (Instr.controlPeriod (meas 65535 30000 1500)).wellFormed = true := by decide +kernel

theorem test_wellFormed_arrivals :
    [Instr.cautionOff (.mark (mark 1) ⟨5, 0⟩), .islandedOmitted (.mark (mark 1) ⟨5, 0⟩), .rejoin (.mark (mark 1) ⟨5, 0⟩),
      .markReceived (mark 1) ⟨5, 0⟩, .enterLocked (mark 1) ⟨5, 0⟩, .shareReceived (share3 0) ⟨5, 0⟩,
      .start (con 0 0) ⟨5, 0⟩, .abort (con 0 0) ⟨5, 0⟩, .forceStop (con 0 0) ⟨5, 0⟩, .hold (con 0 0) ⟨5, 0⟩,
      .resume (con 0 0) ⟨5, 0⟩, .clearFault (con 0 0) ⟨5, 0⟩, .setHoldMode (con 0 0) ⟨5, 0⟩, .nextStep (con 0 0) ⟨5, 0⟩,
      .noCommand (con 0 0) ⟨5, 0⟩].all (fun i => !i.wellFormed) = true ∧
    (Instr.markReceived (mark 1) ⟨5, 1⟩).wellFormed = true ∧ (Instr.cautionOff .rollover).wellFormed = true := by
  decide +kernel

theorem test_wellFormed_port :
    [Instr.frameCheckFailed (markBytes (mark 1)), .read [0, 1, 2, 3], .release [0, 1], .unknownCommandWord 1,
      .unknownCommandWord 2, .unknownCommandWord 3, .unknownCommandWord 4].all (fun i => !i.wellFormed) = true ∧
    [Instr.frameCheckFailed [1, 2], .read [0, 1, 2], .release [0], .unknownCommandWord 5].all Instr.wellFormed = true := by
  decide +kernel

/-! ### Figures that the spec works out -/

/-- The check value of the CRC-16 with generator 1021h and initial value FFFFh over the digits 1 to 9. -/
theorem test_crc_check_value : crc16 [0x31, 0x32, 0x33, 0x34, 0x35, 0x36, 0x37, 0x38, 0x39] = 0x29B1 := by
  decide +kernel

/-- The walk of the worked sequence in chapter 3. -/
def workedItems : List SnapshotEntry :=
  [⟨2, ⟨⟨30, 0⟩, ⟨-60, 1⟩, ⟨20, 2⟩, ⟨0, 0⟩⟩⟩, ⟨5, ⟨⟨-80, 0⟩, ⟨35, 1⟩, ⟨0, 0⟩, ⟨15, 2⟩⟩⟩,
    ⟨8, ⟨⟨10, 1⟩, ⟨-45, 2⟩, ⟨0, 0⟩, ⟨0, 0⟩⟩⟩]

theorem test_worked_walk :
    hallWalk (setup 2) workedItems = ⟨30, -50, 20, 0⟩ ∧ hallWalk (setup 5) workedItems = ⟨-80, 35, 0, 15⟩ ∧
    hallWalk (setup 8) workedItems = ⟨10, 0, 0, 0⟩ ∧ (hallWalk (setup 5) workedItems).map (clipGrant 20) = ⟨-20, 20, 0, 15⟩ := by
  decide +kernel

/-- Current limits and demands of the worked sequences in chapter 6. -/
theorem test_worked_currents :
    grantCurrent 500 20 40000 = 2500 ∧ grantCurrent 500 20 40100 = 2493 ∧ grantCurrent 500 33 40100 = 4114 ∧
    quantaOf 500 (4000 * 40000) = 32 ∧ quantaOf 500 (4000 * 40100) = 33 ∧ quantaOf 500 (-3000 * 40000) = -24 := by
  decide +kernel

/-- The ramp of the worked sequences in chapter 6: 2493 under a limit of 4000 goes to 3493, and 1000 under 0 goes to 0. -/
theorem test_worked_ramp :
    rampSetpoint 1000 2493 2493 4000 = 3493 ∧ rampSetpoint 1000 3493 3493 4000 = 4000 ∧ rampSetpoint 1000 1000 1000 0 = 0 ∧
    rampSetpoint 1000 4000 2500 2500 = 2500 := by decide +kernel

/-- The parity bit makes the number of ones in the 17 bits even. -/
theorem test_setpoint_word :
    setpointWord 0 = 0 ∧ setpointWord 1 = 0b11 ∧ setpointWord 3 = 0b110 ∧ setpointWord (-1) = 0b11111111111111110 := by
  decide +kernel

/-- A STATION entry, a GAP and a SAMPLE word by word (section 11.5). -/
theorem test_entry_words :
    entryWords (.station 0x00010002 .pacerSelfStart 6) = [0x7705, 1, 2, 0x0706, 0x0100] ∧
    entryWords (.gap 5 1 0 3 0 0) = [0x6708, 0, 5, 1, 0, 3, 0, 0] ∧
    entryWords (.sample 2 5 1 3 40000 7 200) = [0x1207, 0, 5, 0x0103, 40000, 7, 200] := by decide +kernel

/-! ### One step of each kind -/

theorem test_reset_and_clock :
    yields (exec .reset (locked true 5)) (fun t => decide (t = State.reset)) = true ∧
    yields (exec (.controlPeriod (quiet false)) State.reset) (fun t => decide (t = State.reset.setTick 1)) = true := by
  decide +kernel

/-- A profile image of 291 bytes with one program of one END step. -/
def imageBody : List Byte :=
  [2, 15, 0, 4] ++ (List.replicate 4 [1, 1, 3, 232, 0, 10, 0, 100, 5, 5]).flatten ++
  [8, 1, 244, 0, 40, 0, 30, 0, 10, 20, 20] ++ [0, 250, 1, 94, 1, 144, 0, 20] ++
  (List.replicate 16 [0x13, 0x88, 0x0D, 0xAC, 0xAF, 0xC8, 0x75, 0x30, 1, 194]).flatten ++
  [0, 24, 1] ++ List.replicate 21 0 ++ [8] ++ List.replicate 37 0

/-- Its header. -/
def imageHeader : List Byte := [0x0A, 0x31, 0x01, 0x23, hiByte (crc16 imageBody), loByte (crc16 imageBody)]

set_option maxRecDepth 100000 in
theorem test_profile_opens :
    yields (exec (.profileHeaderRead imageHeader) State.reset) (fun s =>
      yields (exec (.profileReadComplete imageBody) s) fun t =>
        decide (t.loader.startup = .ready) && decide (t.loader.settings.bands = (setup 2).bands) &&
        decide (t.lock.listen = 6) && decide (t.loader.programs = progEnd :: List.replicate 7 Program.absent) &&
        decide ((t.channels.get 3).holdMode = .freeze)) = true := by decide +kernel

set_option maxRecDepth 100000 in
theorem test_profile_fails :
    yields (exec (.profileHeaderRead imageHeader) State.reset) (fun s =>
      yields (exec (.profileReadComplete (imageBody.set 0 0)) s) fun t => decide (t.loader.startup = .profileFault)) = true ∧
    yields (exec (.profileHeaderRead [0x0A, 0x31, 0, 252, 0, 0]) State.reset)
      (fun t => decide (t.loader.startup = .profileFault)) = true := by decide +kernel

theorem test_start_and_close :
    yields (exec (.start (con 0 0) slot49) (member (locked false 0) .joined false 0 0 0)) (fun s =>
      decide ((s.channels.get 0).runRequest = true) && decide (s.console.last = ⟨1, .start, 0, .accepted⟩) &&
      yields (exec (.controlPeriod (quiet false)) s) fun t => decide ((t.channels.get 0).state = .closing)) = true := by
  decide +kernel

theorem test_self_start :
    yields (exec .selfStart (ready.setLock ⟨.search, 1, 0, 0, false, 0, 0⟩)) (fun t =>
      decide (t.lock.state = .locked ∧ t.lock.pacer = true ∧ t.member.state = .joining ∧
        t.link.line = some (.mark ⟨2, 1, 0x1234⟩ false) ∧ t.capture.station.entries.length = 2)) = true := by
  decide +kernel

theorem test_walk_of_a_round :
    yields (exec .walkStart (member (locked false 0) .joined false 0 0 0)) (fun s =>
      yields (exec .walkCompletion s) fun t =>
        decide (t.walk.pendingLocal = some (Quad.same 0) ∧ t.walk.pendingHall = some (Quad.same 0) ∧
          t.heard.tag = some 0)) = true := by decide +kernel

theorem test_lockout_and_release :
    yields (exec (.flush false) (ready.setBuffer ⟨[], .opened, .full, 5, false, true⟩)) (fun s =>
      decide (s.buffer.lockout = true) &&
      yields (exec .answerLastByteSent s) fun a =>
        yields (exec (.release [1]) a) fun t =>
          decide (t.buffer = ⟨[(4096, 0x6708)], .full, .opened, 8, false, true⟩ ∧ t.port.answer = [0])) = true := by
  decide +kernel

theorem test_read_of_a_full_half :
    yields (exec (.read [1, 0, 1]) (ready.setBuffer ⟨[(4096, 7)], .opened, .full, 5, false, true⟩)) (fun s =>
      yields (exec .readWord s) fun t => decide (t.port = ⟨[], true, [0, 7], none, false⟩)) = true := by decide +kernel

theorem test_idle_step_and_front_command :
    step State.reset = .next State.reset ∧
    yields (step (ready.setPending [.commandTimeout, .reset])) (fun t => decide (t.pending = [.reset])) = true ∧
    State.reset.withFetchWord 16 1 = State.reset := by
  refine ⟨rfl, by decide +kernel, rfl⟩

/-! ### The hypotheses of the statements are met -/

theorem test_witness_StepRunsFrontCommand : State.reset.pending = [] := rfl

set_option maxRecDepth 100000 in
theorem test_witness_ProfileIsReadAndChecked :
    (State.reset.loader.startup = .loading ∧ State.reset.loader.image = [] ∧ imageHeader.length = 6) ∧
    let s := State.reset.setLoader { State.reset.loader with image := imageHeader }
    s.loader.startup = .loading ∧ s.loader.image.length = 6 ∧
    (s.loader.image ++ imageBody).length = profileLength (s.loader.image ++ imageBody) ∧
    profileOk (s.loader.image ++ imageBody) = true ∧
    (s.loader.image ++ imageBody.set 0 0).length = profileLength (s.loader.image ++ imageBody.set 0 0) ∧
    profileOk (s.loader.image ++ imageBody.set 0 0) = false := by decide +kernel

set_option maxRecDepth 100000 in
theorem test_witness_ProfileChecksAndSettings :
    ProfilePasses (imageHeader ++ imageBody) ∧ ¬ ProfilePasses (imageHeader ++ imageBody.set 0 0) :=
  ⟨⟨by decide +kernel, by decide +kernel, ⟨by decide +kernel, by decide +kernel, by decide +kernel, by decide +kernel⟩,
    by decide +kernel, by decide +kernel⟩, fun h => absurd h.2.1 (by decide +kernel)⟩

/-- Program 0 of the image is read as one END step, its loop structure in order; program 1 has no steps. -/
theorem test_witness_ProgramsAreValidated :
    (let img := imageHeader ++ imageBody
     byteAt img 231 = 1 ∧ 229 + wordAt img 229 = 253 ∧ 253 + 38 * 1 ≤ wordAt img 2 ∧
     StepRead img (wordAt img 8) 1 253 ⟨.finish, 0, .off, 0, []⟩ ∧ byteAt img 234 = 0) ∧
    LoopsNest [⟨.finish, 0, .off, 0, []⟩] := by
  have none_loops : ∀ l t, ¬ LoopAt [⟨.finish, 0, .off, 0, []⟩] l t := by
    rintro (_ | l) t ⟨st, m, n, h, hk⟩
    · cases h; cases hk
    · simp at h
  refine ⟨⟨by decide +kernel, by decide +kernel, by decide +kernel, ⟨?_, nofun, fun _ => ?_⟩,
    by decide +kernel⟩, fun l t h => absurd h (none_loops l t), fun l t _ _ h => absurd h (none_loops l t),
    fun _ l t _ _ _ _ h => absurd h (none_loops l t)⟩
  · show byteAt (imageHeader ++ imageBody) 253 = 8
    decide +kernel
  · decide +kernel

theorem test_witness_ControlPeriodOfTheStation :
    Ready ready ∧ (ready.loader.settings.channels.get 3).enable = false ∧ ¬ Ready State.reset := by decide +kernel

theorem test_witness_FilteredLevelsChange :
    (let s := ready.setStopLine ⟨true, 2⟩
     Ready s ∧ s.stopLine.run = 2 ∧ (quiet false).stopLine ≠ s.stopLine.level) ∧
    (let s := with0 { chan .idle 0 with feedback := ⟨false, 2⟩, fault := ⟨true, 2⟩ }
     Works s 0 ∧ (s.channels.get 0).feedback.run = 2 ∧
     ((quiet true).channels.get 0).feedback ≠ (s.channels.get 0).feedback.level ∧
     (s.channels.get 0).fault.run = 2 ∧ ((quiet true).channels.get 0).fault ≠ (s.channels.get 0).fault.level) := by
  decide +kernel

/-- A first differing sample is counted, an equal one clears the count. -/
theorem test_filters_count :
    let s := with0 { chan .idle 0 with feedback := ⟨false, 0⟩, fault := ⟨false, 2⟩ }
    Works s 0 ∧ yields (exec (.controlPeriod (quiet true)) s) (fun t =>
      decide ((t.channels.get 0).feedback = ⟨false, 1⟩ ∧ (t.channels.get 0).fault = ⟨false, 0⟩)) = true := by decide +kernel

/-- An armed count rises, stays at its top and returns to 0; a count that is not armed is 0. -/
theorem test_persistence_counts :
    let s := fun st p => with0 { chan st 0 with persistence := ⟨p, 1, 0, 0⟩, openTimer := 0, feedback := ⟨true, 0⟩ }
    let overV := fun st p n => yields (exec (.controlPeriod (meas 45001 0 200)) (s st p)) fun t =>
      decide ((t.channels.get 0).persistence = ⟨n, 0, 0, 0⟩)
    overV .running 0 1 = true ∧ overV .opening 1 2 = true ∧ overV .faulted 3 3 = true ∧ overV .idle 2 0 = true := by
  decide +kernel

theorem test_witness_TimedCauseIsDetected :
    let s := with0 { chan .running 0 with persistence := ⟨2, 2, 2, 19⟩, setpoint := 101 }
    Works s 0 ∧ (s.channels.get 0).state ∈ ([.running, .held, .stopping] : List ChannelState) ∧
    (limitsAfter s (meas 45001 0 200) 0).vMax < ((meas 45001 0 200).channels.get 0).v.toNat ∧
    closedAfter s (meas 29999 0 200) 0 = true ∧
    ((meas 29999 0 200).channels.get 0).v.toNat < (limitsAfter s (meas 29999 0 200) 0).vMin ∧
    (limitsAfter s (meas 40000 0 451) 0).tMax < ((meas 40000 0 451).channels.get 0).t.toInt ∧
    (s.channels.get 0).enabled = true ∧
    (s.loader.settings.channels.get 0).tolerance <
      (((meas 40000 0 200).channels.get 0).i.toInt - (s.channels.get 0).setpoint).natAbs ∧
    (s.channels.get 0).persistence = ⟨2, 2, 2, 19⟩ := by decide +kernel

theorem test_witness_ContactorLimitsFault :
    (let s := with0 { chan .closing 0 with closeTimer := 4 }
     Works s 0 ∧ (s.channels.get 0).state = .closing ∧ (s.channels.get 0).stopRequest ≠ .fast ∧
     (s.channels.get 0).record = none ∧ causesOf s (quiet false) 0 = [] ∧ closedAfter s (quiet false) 0 = false ∧
     (s.loader.settings.channels.get 0).closeLimit ≤ (s.channels.get 0).closeTimer + 1) ∧
    (let s := with0 { chan .closing 0 with closeTimer := 3 }
     causesOf s (quiet false) 0 = [] ∧ closedAfter s (quiet false) 0 = false ∧
     (s.channels.get 0).closeTimer + 1 < (s.loader.settings.channels.get 0).closeLimit) ∧
    (let s := with0 { chan .opening 0 with openTimer := 4, feedback := ⟨true, 0⟩, persistence := ⟨2, 0, 0, 0⟩ }
     Works s 0 ∧ causesOf s (meas 45001 0 200) 0 = [.overvoltage] ∧ closedAfter s (meas 45001 0 200) 0 = true ∧
     (faultsRecorded s (meas 45001 0 200) 0 [.overvoltage, .contactorStuck]).2.length = 2) ∧
    (let s := with0 { chan .opening 0 with openTimer := 4, feedback := ⟨true, 0⟩ }
     Works s 0 ∧ (s.channels.get 0).state = .opening ∧ causesOf s (quiet true) 0 = [] ∧
     closedAfter s (quiet true) 0 = true ∧
     (s.loader.settings.channels.get 0).openLimit ≤ (s.channels.get 0).openTimer + 1 ∧
     (s.channels.get 0).record = none) := by decide +kernel

/-- A step without terms goes on where no request waits. -/
theorem goes_on_without_terms {s : State} {inp : PeriodInput} {k : Fin 4} {st : Step} (h : stepNow s k = some st)
    (ht : st.terms = []) (hn : (s.channels.get k).sequencer.nextRequest = false) : StepGoesOn s inp k :=
  ⟨⟨st, h, fun j t hj => by rw [ht] at hj; simp at hj⟩, hn⟩

/-- Channel 0 runs its charge step and nothing ends it. -/
theorem test_runs_on : RunsOn (with0 (chan .running 0)) (quiet true) 0 ∧ StepGoesOn (with0 (chan .running 0)) (quiet true) 0 :=
  ⟨by decide +kernel, goes_on_without_terms rfl rfl rfl⟩

/-- Channel 0 rests; its term is not met in the first period and no other place holds one. -/
theorem test_goes_on_with_a_term : StepGoesOn (with0 (chan .running 1)) (quiet true) 0 :=
  ⟨⟨⟨.rest, 0, .off, 0, [⟨.stepTime, true, 2, .next⟩]⟩, rfl, fun j t h => by
    match j, h with
    | 0, h => cases h; decide +kernel
    | j + 1, h => simp at h⟩, rfl⟩

theorem test_witness_FrameBoundaryCountsFrames :
    let s := with0 { chan .running 2 with live := ⟨true, 300, 100, 2, 0⟩ }
    Ready s ∧ s.framePos = 0 ∧ RunsOn s (quiet true) 0 ∧ StepGoesOn s (quiet true) 0 ∧
    (s.channels.get 0).live.active = true ∧ (s.channels.get 0).staged.valid = false :=
  ⟨rfl, rfl, by decide +kernel, goes_on_without_terms rfl rfl rfl, rfl, rfl⟩

theorem test_witness_SampleIsCaptured :
    (let s := with0 { chan .running 0 with pacer := ⟨.interval, 1000, 1023⟩ }
     RunsOn s (quiet true) 0 ∧ StepGoesOn s (quiet true) 0 ∧ (s.channels.get 0).sequencer.index = some 0 ∧
     (s.channels.get 0).pacer.mode = .interval ∧ (s.channels.get 0).pacer.acc = 1023) ∧
    (let s := with0 { chan .running 0 with pacer := ⟨.fraction, 24, 1000⟩ }
     RunsOn s (quiet true) 0 ∧ StepGoesOn s (quiet true) 0 ∧
     (s.channels.get 0).pacer.mode = .fraction ∧ 1023 < (s.channels.get 0).pacer.acc + (s.channels.get 0).pacer.d) :=
  ⟨⟨by decide +kernel, goes_on_without_terms rfl rfl rfl, rfl, rfl, rfl⟩,
    by decide +kernel, goes_on_without_terms rfl rfl rfl, rfl, by decide⟩

theorem test_witness_RunningStepCounts :
    (RunsOn (with0 (chan .running 1)) (quiet true) 0 ∧ StepGoesOn (with0 (chan .running 1)) (quiet true) 0) ∧
    termCountAfter (with0 (chan .running 0)) (quiet true) 0 0 ⟨.voltage, true, 40000, .next⟩ = 1 ∧
    termCountAfter (with0 (chan .running 0)) (quiet true) 0 0 ⟨.voltage, true, 40001, .next⟩ = 0 ∧
    Works (with0 (chan .faulted 0)) 0 ∧ Works (with0 { chan .idle 0 with runRequest := true }) 0 ∧
    stopSeen (with0 (chan .idle 0)) (quiet true) 0 = false :=
  ⟨⟨by decide +kernel, test_goes_on_with_a_term⟩, by decide +kernel⟩

theorem test_witness_StepEndsByTermOrOperator :
    (let s := with0 { chan .running 1 with sequencer := ⟨some 0, some 1, false, [], ⟨1, 0, 0, 0, 0, [0, 0, 0]⟩, false, 0⟩ }
     RunsOn s (quiet true) 0 ∧ (s.channels.get 0).sequencer.program = some 0 ∧
     (stepsOf s.loader.programs 0)[1]? = some ⟨.rest, 0, .off, 0, [⟨.stepTime, true, 2, .next⟩]⟩ ∧
     TermMet s (quiet true) 0 0 ⟨.stepTime, true, 2, .next⟩ ∧ (s.channels.get 0).sequencer.nextRequest = false ∧
     destination prog.steps 1 .next [] 0 = ⟨.step 2, [], 0⟩) ∧
    (let s := with0 { chan .running 3 with sequencer := ⟨some 0, some 3, false, [], Counters.zero, true, 0⟩ }
     RunsOn s (quiet true) 0 ∧ (s.channels.get 0).sequencer.nextRequest = true ∧
     destination prog.steps 3 .next [] 0 = ⟨.finish, [], 0⟩) ∧
    destination prog.steps 3 (.goto 1) [] 0 = ⟨.step 1, [], 0⟩ ∧ destination prog.steps 1 .finish [] 0 = ⟨.finish, [], 0⟩ := by
  decide +kernel

/-- A FREEZE release whose period ends the step by its term. -/
theorem test_witness_release_that_ends_the_step :
    let s := with0 { chan .held 1 with
      holdMode := .freeze, sequencer := ⟨some 0, some 1, false, [], ⟨1, 0, 0, 0, 0, [0, 0, 0]⟩, false, 0⟩ }
    RunsOn s (quiet true) 0 ∧ TermMet s (quiet true) 0 0 ⟨.stepTime, true, 2, .next⟩ ∧
    yields (exec (.controlPeriod (quiet true)) s) (fun t =>
      decide ((t.channels.get 0).state = .running ∧ (t.channels.get 0).sequencer.index = some 2)) = true := by decide +kernel

/-- A VOLTAGE term is met in the third period of its condition, a CURRENT_MAG term not under the limited flag. -/
theorem test_lasting_terms :
    (let s := with0 { chan .running 0 with sequencer := ⟨some 0, some 0, false, [], ⟨9, 0, 0, 0, 0, [2, 1, 2]⟩, false, 0⟩ }
     TermMet s (quiet true) 0 0 ⟨.voltage, true, 40000, .next⟩ ∧ ¬ TermMet s (quiet true) 0 1 ⟨.voltage, true, 40000, .next⟩ ∧
     TermMet s (quiet true) 0 2 ⟨.currentMag, false, 5, .next⟩) ∧
    ¬ TermMet (with0 { chan .running 0 with
      regulator := ⟨0, 0, 0, true⟩, sequencer := ⟨some 0, some 0, false, [], ⟨9, 0, 0, 0, 0, [2, 1, 2]⟩, false, 0⟩ })
      (quiet true) 0 2 ⟨.currentMag, false, 5, .next⟩ := by decide +kernel

/-- Three loops side by side: of three passes with a mark, endless, and of one pass. -/
def loopy : List Step :=
  [⟨.rest, 0, .off, 0, []⟩, ⟨.loop 0 true 3, 0, .off, 0, []⟩, ⟨.rest, 0, .off, 0, []⟩, ⟨.loop 2 false 0, 0, .off, 0, []⟩,
    ⟨.rest, 0, .off, 0, []⟩, ⟨.loop 4 true 1, 0, .off, 0, []⟩, ⟨.finish, 0, .off, 0, []⟩]

/-- One resolution for each case of a LOOP step, an END step, the end of the program, and the pops of a GOTO. -/
theorem test_witness_LoopsAndDestinations :
    loopsOk loopy = true ∧
    (let R := resolve loopy (resolveFuel loopy)
     R 1 [] 0 = ⟨.step 0, [⟨1, some 2⟩], 1⟩ ∧ R 1 [⟨1, some 2⟩] 1 = ⟨.step 0, [⟨1, some 1⟩], 2⟩ ∧
     R 1 [⟨1, some 1⟩] 2 = ⟨.step 2, [], 3⟩ ∧ R 3 [] 0 = ⟨.step 2, [⟨3, none⟩], 0⟩ ∧
     R 3 [⟨3, none⟩] 0 = ⟨.step 2, [⟨3, none⟩], 0⟩ ∧ R 5 [] 0 = ⟨.finish, [], 1⟩ ∧ R 4 [] 0 = ⟨.step 4, [], 0⟩ ∧
     R 7 [] 0 = ⟨.finish, [], 0⟩) ∧
    gotoPops loopy 2 [⟨1, some 2⟩, ⟨3, none⟩] = [⟨3, none⟩] := by decide +kernel

theorem test_witness_RunRequestIsTaken :
    let s := with0 { chan .idle 0 with runRequest := true }
    Works (with0 (chan .ended 0)) 0 ∧ ((with0 (chan .ended 0)).channels.get 0).runRequest = false ∧
    Works s 0 ∧ (s.channels.get 0).state = .idle ∧ (s.channels.get 0).runRequest = true ∧
    (s.channels.get 0).record = none ∧ stopSeen s (quiet false) 0 = false ∧ closedAfter s (quiet false) 0 = false ∧
    (limitsAfter s (quiet false) 0).vMin ≤ 30000 ∧ 45000 ≤ (limitsAfter s (quiet false) 0).vMax ∧
    stopSeen (s.setStopLine ⟨true, 0⟩) (quiet false) 0 = true ∧
    closedAfter (with0 { chan .ended 0 with runRequest := true, feedback := ⟨true, 0⟩ }) (quiet true) 0 = true := by
  decide +kernel

/-- Channel 0 in CLOSING, as entry to it leaves a channel, one sample before its feedback reads closed. -/
def closing0 : Channel :=
  { chan .closing 0 with feedback := ⟨false, 2⟩, drive := true, sequencer := ⟨some 0, none, false, [], Counters.zero, false, 0⟩ }

/-- A program whose first step is a PULSE step. -/
def progPulse : Program := ⟨true, [⟨.pulse 300 100 2, 1, .fraction, 1000, []⟩, ⟨.finish, 0, .off, 0, []⟩]⟩

theorem test_closing_channel_is_in_order :
    ChannelInv closing0 ∧ ChannelInv { closing0 with stopRequest := .secure .excluded } := by
  constructor <;>
  exact ⟨nofun, fun _ => rfl, fun _ _ => ⟨rfl, rfl⟩, ⟨nofun, fun _ _ => rfl⟩, by unfold PacerFits; decide,
    by unfold StepFits; decide⟩

theorem test_witness_ClosingEndsByFeedback :
    let c := closing0
    let s := with0 c
    Works s 0 ∧ (s.channels.get 0).state = .closing ∧ (s.channels.get 0).stopRequest = .none ∧
    causesOf s (quiet true) 0 = [] ∧ closedAfter s (quiet true) 0 = true ∧
    stepsOf s.loader.programs 0 = prog.steps ∧ stepsOf s.loader.programs 1 = progEnd.steps ∧
    causesOf (with0 { c with stopRequest := .secure .excluded }) (quiet true) 0 = [] ∧
    stepsOf ([prog, progPulse] : List Program) 1 = progPulse.steps ∧
    HoldSeen ((with0 { c with holdMode := .freeze }).setConsole ⟨true, ⟨0, .none, 0, .accepted⟩⟩) 0 := by decide +kernel

theorem test_witness_PostedStopsAreTaken :
    let secure := with0 { chan .running 0 with stopRequest := .secure .aborted }
    let fast := with0 { chan .stopping 0 with stopRequest := .fast }
    Works secure 0 ∧ causesOf secure (quiet true) 0 = [] ∧ (secure.channels.get 0).stopRequest = .secure .aborted ∧
    Works fast 0 ∧ causesOf fast (quiet true) 0 = [] ∧ (fast.channels.get 0).stopRequest = .fast ∧
    (fast.channels.get 0).state ∈ ([.closing, .running, .held, .stopping] : List ChannelState) := by decide +kernel

theorem test_witness_RecordedFaults :
    (let s := with0 { chan .opening 0 with feedback := ⟨true, 0⟩, persistence := ⟨2, 0, 0, 0⟩, openTimer := 3 }
     Works s 0 ∧ closedAfter s (meas 45001 0 200) 0 = true ∧ causesOf s (meas 45001 0 200) 0 = [.overvoltage] ∧
     (s.channels.get 0).openTimer + 1 < (s.loader.settings.channels.get 0).openLimit) ∧
    Works (with0 (chan .faulted 0)) 0 := by decide +kernel

theorem test_witness_FaultMakesFastStop :
    let s := with0 { chan .held 0 with fault := ⟨true, 0⟩, persistence := ⟨2, 0, 0, 0⟩ }
    let inp : PeriodInput := ⟨false, Quad.same ⟨45001, 0, 200, true, true, true⟩⟩
    Works s 0 ∧ causesOf s inp 0 = [.converter, .overvoltage] ∧ (s.channels.get 0).record = none := by decide +kernel

theorem test_witness_HoldHaltsAndReleases :
    (let s := (with0 { chan .running 0 with holdMode := .restart }).setConsole ⟨true, ⟨0, .none, 0, .accepted⟩⟩
     Works s 0 ∧ causesOf s (quiet true) 0 = [] ∧ HoldSeen s 0) ∧
    (let s := (with0 { chan .running 2 with holdMode := .freeze }).setConsole ⟨true, ⟨0, .none, 0, .accepted⟩⟩
     Works s 0 ∧ causesOf s (quiet true) 0 = [] ∧ HoldSeen s 0 ∧ (s.channels.get 0).staged.valid = false) ∧
    (let s := with0 { chan .held 0 with holdMode := .freeze }
     Works s 0 ∧ causesOf s (quiet true) 0 = [] ∧ s.console.hold = false ∧ StepGoesOn s (quiet true) 0) ∧
    (let s := with0 { chan .held 2 with holdMode := .restart }
     Works s 0 ∧ causesOf s (quiet true) 0 = [] ∧ s.console.hold = false ∧
     (s.channels.get 0).sequencer.index = some 2 ∧ (s.channels.get 0).sequencer.ended = false ∧
     stepNow s 0 = some ⟨.pulse 300 100 2, 1, .fraction, 1000, []⟩) :=
  ⟨by decide +kernel, by decide +kernel, ⟨by decide +kernel, by decide +kernel, rfl, goes_on_without_terms rfl rfl rfl⟩,
    by decide +kernel⟩

theorem test_witness_StoppingAndOpeningEnd :
    (let s := with0 { chan .stopping 0 with confirmed := true }
     Works s 0 ∧ (s.channels.get 0).stopRequest ≠ .fast ∧ causesOf s (quiet true) 0 = [] ∧
     (s.channels.get 0).setpoint = 0 ∧ (s.channels.get 0).confirmed = true) ∧
    (let s := with0 { chan .opening 0 with feedback := ⟨true, 2⟩ }
     Works s 0 ∧ causesOf s (quiet false) 0 = [] ∧ closedAfter s (quiet false) 0 = false) ∧
    (let s := with0 { chan .opening 0 with feedback := ⟨true, 2⟩, persistence := ⟨2, 0, 0, 0⟩ }
     let inp : PeriodInput := ⟨false, Quad.same ⟨45001, 0, 200, false, false, true⟩⟩
     Works s 0 ∧ causesOf s inp 0 = [.overvoltage] ∧ closedAfter s inp 0 = false) ∧
    (let s := with0 { chan .opening 0 with feedback := ⟨true, 0⟩, openTimer := 3 }
     Works s 0 ∧ causesOf s (quiet true) 0 = [] ∧ closedAfter s (quiet true) 0 = true ∧
     (s.channels.get 0).openTimer + 1 < (s.loader.settings.channels.get 0).openLimit) := by decide +kernel

theorem test_witness_TargetsAndSetpoint :
    let s := with0 (chan .running 3)
    RunsOn s (quiet true) 0 ∧ StepGoesOn s (quiet true) 0 ∧ stepNow s 0 = some ⟨.chargeCV 41000 4000, 0, .off, 0, []⟩ ∧
    Works (with0 { chan .stopping 0 with setpoint := 1500 }) 0 :=
  ⟨by decide +kernel, goes_on_without_terms rfl rfl rfl, rfl, by decide +kernel⟩

/-- A setpoint of 1500 under a grant of 10 quanta in STOPPING ramps to 250 through the cut at 1250. -/
theorem test_witness_SetpointStaysInsideTheGrant :
    let s := (with0 { chan .stopping 0 with setpoint := 1500 }).setWalk { ready.walk with grants := Quad.same 10 }
    Works s 0 ∧ yields (exec (.controlPeriod (meas 40000 1500 200)) s) (fun t =>
      decide ((t.channels.get 0).state = .stopping ∧ (t.channels.get 0).setpoint = 250)) = true := by decide +kernel

theorem test_witness_PulsePairsMakeTheTarget :
    let s := with0 { chan .running 2 with staged := ⟨true, 300, 100, 2⟩ }
    RunsOn s (quiet true) 0 ∧ StepGoesOn s (quiet true) 0 ∧ stepNow s 0 = some ⟨.pulse 300 100 2, 1, .fraction, 1000, []⟩ ∧
    s.framePos = 0 :=
  ⟨by decide +kernel, goes_on_without_terms rfl rfl rfl, rfl, rfl⟩

/-- Demands at 400.00 V and a quantum of 500: 4000 codes of charge ask for 32 quanta, 3000 of discharge for 24. -/
theorem test_demands_by_state :
    (setup 2).channels.c0.enable = true ∧
    demandOf (setup 2) [prog] 0 { chan .running 0 with vMeas := 40000 } = ⟨32, 1⟩ ∧
    demandOf (setup 2) [prog] 0 { chan .idle 0 with vMeas := 40000, runRequest := true } = ⟨32, 1⟩ ∧
    demandOf (setup 2) [prog] 0 { chan .closing 0 with vMeas := 40000 } = ⟨32, 1⟩ ∧
    demandOf (setup 2) [prog] 0 { chan .stopping 0 with vMeas := 40000, setpoint := -3000 } = ⟨-24, 0⟩ ∧
    demandOf (setup 2) [prog] 0 { chan .running 3 with vMeas := 40000, regulator := ⟨0, 4000, 0, false⟩ } = ⟨32, 0⟩ ∧
    demandOf (setup 2) [prog] 0 (chan .held 0) = ⟨0, 0⟩ := by decide +kernel

theorem test_witness_DemandAndBand :
    (0 < 500 ∧ (4000 : Int).natAbs * max (40100 : Word).toNat 1 ≤ 200 * 500 * 10000) ∧
    Works (with0 (chan .idle 0)) 0 ∧ (setup 2).t1 < (setup 2).t2 ∧ (setup 2).t2 < (setup 2).t3 := by decide +kernel

theorem test_witness_rounds :
    Ready ready ∧ ¬ Ready State.reset ∧ ready.lock.state = .search ∧ ready.lock.listen ≠ 1 ∧
    (ready.setLock ⟨.search, 1, 0, 0, false, 0, 0⟩).lock.listen = 1 ∧
    (let s := (locked false 2).setHeard { State.reset.heard with map := 0b110 }
     s.lock.state = .locked ∧ s.lock.pacer = false ∧ 2 ≤ s.lock.missed ∧ inMap s.heard.map 2 = true ∧
     inMap s.heard.map 1 = false ∧ inMap s.heard.map 3 = true) := by decide +kernel

theorem test_witness_GrantsAndCautionAtRoundStart :
    TakesRoundStart .rollover ready ∧ TakesRoundStart (.mark (mark 1) far) ready ∧
    TakesRoundStart (.mark (mark 1) before) (locked false 0) :=
  ⟨⟨rfl, trivial⟩, ⟨rfl, _, rfl⟩, ⟨rfl, _, rfl⟩⟩

/-- A mark of a differing digest to a JOINED, LOCKED station whose walk has completed: zero grants (R56). -/
theorem test_witness_ExcludedFromLock :
    let s := (member (locked false 0) .joined false 0 0 0).setWalk
      { State.reset.walk with pendingLocal := some ⟨3, 0, 0, 0⟩, grants := ⟨5, 0, 0, 0⟩ }
    let t := receiveMark ⟨1, 7, 0x1235⟩ before s
    judgeMark (advanceTo s before.now) ⟨1, 7, 0x1235⟩ before ≠ .ignored ∧ ExcludedFromLock s t ∧
    t.walk.grants = Quad.same 0 := by decide +kernel

/-- A mark of a differing digest to a station in SEARCH: the local result (R48). -/
theorem test_excluded_from_search_takes_the_local_result :
    let s := ready.setWalk { State.reset.walk with pendingLocal := some ⟨3, 0, 0, 0⟩ }
    let t := receiveMark ⟨1, 7, 0x1235⟩ far s
    t.member.state = .excluded ∧ ¬ ExcludedFromLock s t ∧ t.walk.grants = ⟨3, 0, 0, 0⟩ := by decide +kernel

theorem test_witness_CautionOffAfterTwoCleanRounds :
    let s := ready.setWalk { State.reset.walk with caution := true, clean := 1, cautionRounds := 2 }
    TakesRoundStart .rollover s ∧ s.walk.caution = true ∧ s.walk.clean = 1 ∧ s.heard.disagreement = false ∧
    s.capture.station.entries.length ≤ 1 :=
  ⟨⟨rfl, trivial⟩, rfl, rfl, rfl, by decide⟩

theorem test_witness_membership_rounds :
    (let s := (member (locked false 0) .joined false 1 0 0).setHeard { State.reset.heard with omission := true }
     KeepsLock .rollover s ∧ KeepsLock (.mark (mark 1) before) s ∧ s.member.state = .joined ∧ s.member.omissions = 1 ∧
     s.heard.omission = true) ∧
    (let s := member (locked false 0) .islanded false 0 3 0
     KeepsLock .rollover s ∧ s.member.state = .islanded ∧ 3 ≤ s.member.dwell) ∧
    (let s := member ready .islanded false 0 4 0
     TakesRoundStart .rollover s ∧ s.member.state = .islanded ∧ 3 ≤ s.member.dwell ∧ s.lock.state = .search) ∧
    (let s := member (locked false 0) .joining true 0 0 0
     KeepsLock .rollover s ∧ s.member.confirmed = true ∧ ¬ (s.heard.omission = true ∧ 1 ≤ s.member.omissions)) :=
  ⟨⟨⟨rfl, rfl, trivial⟩, ⟨rfl, rfl, by decide +kernel⟩, rfl, rfl, rfl⟩, ⟨⟨rfl, rfl, trivial⟩, rfl, by decide⟩,
    ⟨⟨rfl, trivial⟩, rfl, by decide, rfl⟩, ⟨rfl, rfl, trivial⟩, rfl, by decide⟩

theorem test_witness_slots :
    Ready ready ∧ ready.timer.phase < (ready.loader.settings.station - 1) * (ready.loader.settings.pRound * 16000 / 64) ∧
    ready.timer.phase < 57 * (ready.loader.settings.pRound * 16000 / 64) ∧ ready.heard.entries.length = 48 ∧
    (member (locked false 0) .joining false 0 0 0).member.state = .joining ∧
    (ready.setTimer ⟨114000, 0, true, false⟩).timer.phase = 57 * (ready.loader.settings.pRound * 16000 / 64) ∧
    (setup 1).station = 1 ∧ (ready.setWalk { State.reset.walk with walking := true }).walk.walking = true ∧
    (∀ e ∈ workedItems, e.station ≠ (setup 3).station) ∧ 10 ≤ (setup 2).lImp ∧ 10 ≤ (setup 2).lExp := by decide +kernel

theorem test_witness_marks_in_acquisition :
    let acq := opened (ready.setLock ⟨.acquire, 0, 31, 0, false, 0, 0⟩)
    Ready ready ∧ ready.lock.state = .search ∧ ValidMark ready (mark 1) ∧
    Ready acq ∧ acq.lock.state = .acquire ∧ ValidMark acq (mark 1) ∧ acq.lock.lockCount = 31 ∧
    acq.member.state ≠ .excluded ∧ placeOf acq after = .afterRollover ∧ placeOf acq before = .beforeRollover ∧
    placeOf acq far = .outside ∧ placeOf acq ⟨470, 150⟩ = .afterRollover ∧ placeOf acq ⟨471, 150⟩ = .outside ∧
    placeOf acq ⟨127780, 100⟩ = .beforeRollover ∧ placeOf acq ⟨127779, 100⟩ = .outside := by decide +kernel

theorem test_witness_marks_in_locked :
    let s := opened (locked false 0)
    let p := locked true 0
    Ready s ∧ s.lock.state = .locked ∧ s.lock.pacer = false ∧ ValidMark s (mark 9) ∧ placeOf s after = .afterRollover ∧
    placeOf s far = .outside ∧ p.lock.pacer = true ∧ (mark 1).station.toNat < p.loader.settings.station ∧
    p.loader.settings.station ≤ (mark 2).station.toNat ∧
    s.member.state ≠ .excluded ∧ (⟨1, 7, 0x1235⟩ : MarkFrame).digest ≠ p.loader.digest := by decide +kernel

/-- The STATION entries of a takeover, of a loss of lock to ACQUIRE, and of the coast limit at a pacer. -/
theorem test_station_entries_of_the_lock :
    (let s := (locked false 2).setHeard { State.reset.heard with map := 0b110 }
     yields (exec .roundStart s) fun t => decide (t.capture.station.entries = [.station 0 (.pacerTakeover 2) 1])) = true ∧
    (let s := member (opened (locked false 0)) .joined false 0 0 0
     ¬ (s.heard.omission = true ∧ 1 ≤ s.member.omissions) ∧
     yields (exec (.markReceived (mark 1) far) s) (fun t =>
       decide (t.capture.station.entries = [.station 0 (.islandedLockLost .joined .acquire) 7])) = true) ∧
    (let s := member (marked true (locked true 15)) .joined false 0 0 0
     yields (exec (.coastLimit (.readback [])) s) fun t => decide (t.capture.station.entries =
       .station 0 .pacerCoastLimit 0 :: lockLostEntries s .search ∧ (lockLostEntries s .search).length = 1)) = true := by
  decide +kernel

theorem test_witness_MissedMarksCountAndReturn :
    WindowOpen (opened (locked false 14)) ∧ WindowOpen (opened (locked false 15)) ∧
    (let s := opened (ready.setLock ⟨.acquire, 0, 3, 15, false, 0, 0⟩)
     WindowOpen s ∧ s.lock.state = .acquire ∧ s.member.state ≠ .excluded ∧ s.lock.missed = 15) ∧
    (let s := member (opened (ready.setLock ⟨.acquire, 0, 3, 16, false, 0, 0⟩)) .excluded false 0 0 3
     WindowOpen s ∧ s.lock.missed = 16 ∧ s.member.state = .excluded) ∧
    MarkSent (marked true (locked true 15)) (mark 2) true ∧ ReadsBadly (markBytes (mark 2)) [] true := by decide +kernel

theorem test_witness_OwnMarkReadback :
    MarkSent (marked false (locked true 14)) (mark 2) false ∧ ReadsBadly (markBytes (mark 2)) [1] false ∧
    (locked true 14).lock.claimFails = 0 ∧
    (let s := marked true ((locked true 0).setLock ⟨.locked, 0, 32, 14, true, 1, 0⟩)
     MarkSent s (mark 2) true ∧ s.lock.missed < 15 ∧ s.lock.claimFails = 1) := by decide +kernel

theorem test_witness_AcceptedShareFrame :
    let s := ready.setHeard { State.reset.heard with tag := some 255, map := 0b10 }
    Ready s ∧ SharePasses s (share3 0b100) slot3 ∧ s.heard.entries.length = 48 ∧
    s.heard.tag = some (s.timer.round - 1) ∧ (share3 0b100).map ≠ s.heard.map ∧ s.heard.disagreement = false ∧
    inMap (share3 0b100).map s.loader.settings.station = false ∧ inMap s.heard.map s.loader.settings.station = true ∧
    ¬ SharePasses s (share3 0) far := by decide +kernel

theorem test_witness_OwnShareReadback :
    (sent true ready).link.line = some (.share (share3 0) true) ∧
    (sent false ready).link.line = some (.share (share3 0) false) ∧ (sent false ready).heard.entries.length = 48 ∧
    [(1 : Byte)] ≠ shareBytes (share3 0) ∧
    (let s := sent false (member (locked true 0) .joined false 0 0 2)
     s.link.line = some (.share (share3 0) false) ∧ s.member.readbackFails = 2 ∧ s.member.state ≠ .excluded) := by
  decide +kernel

theorem test_witness_FramesWithoutEffect :
    frameRow [0x31, 1] after = some (.frameCheckFailed [0x31, 1]) ∧
    frameRow ((markBytes (mark 1)).set 6 0) after = some (.frameCheckFailed ((markBytes (mark 1)).set 6 0)) ∧
    ¬ ConsolePasses .start ready (con 0 0) far ∧ ¬ ConsolePasses .setHoldMode ready (con 0 3) slot49 ∧
    ¬ Ready State.reset := by decide +kernel

theorem test_witness_console :
    Taken .start ready (con 0 0) slot49 ∧ Taken .abort ready (con 4 0) slot49 ∧ Taken .forceStop ready (con 0 0) slot49 ∧
    Taken .clearFault ready (con 3 0) slot49 ∧ Taken .setHoldMode ready (con 0 2) slot49 ∧
    Taken .nextStep ready (con 5 0) slot49 ∧ Taken .hold ready (con 4 0) slot49 ∧ Taken .resume ready (con 5 0) slot49 ∧
    Taken .none ready (con 3 0) slot49 := by
  refine ⟨?_, ?_, ?_, ?_, ?_, ?_, ?_, ?_, ?_⟩ <;> decide +kernel

/-- The result buffer in its forms: empty, nearly full beside a FREE and beside a FULL half, and in lockout. -/
def buf0 : Buffer := ⟨[], .opened, .free, 0, false, false⟩
def bufFree : Buffer := ⟨[], .opened, .free, 4092, false, false⟩
def bufFull : Buffer := ⟨[], .full, .opened, 4092, false, true⟩
def bufLock : Buffer := ⟨[], .full, .full, 0, true, true⟩

theorem test_witness_buffers : BufferInv buf0 ∧ BufferInv bufFree ∧ BufferInv bufFull ∧ BufferInv bufLock := by
  unfold BufferInv; decide +kernel

theorem test_witness_WriterTakesAnEntry :
    let q : EntryQueue := ⟨[.station 0 .pacerExcluded 0], 0⟩
    let s := ready.setCapture { ready.capture with station := q }
    nextQueue ready.capture = none ∧ s.port.deferred = false ∧
    nextQueue s.capture = some (.station, .station 0 .pacerExcluded 0) ∧ skipSum s.capture = 0 ∧
    openHalf buf0 = some 0 ∧ openHalf bufFull = some 1 ∧ openHalf bufLock = none ∧
    4096 < bufFree.writePos + (entryWords (.station 0 .pacerExcluded 0)).length ∧
    4096 < bufFree.writePos + 8 ∧ 4096 < bufFull.writePos + 8 ∧ (⟨[], .opened, .free, 4086, false, false⟩ : Buffer).writePos + 8 ≤ 4096 ∧
    4096 < (⟨[], .opened, .free, 4086, false, false⟩ : Buffer).writePos + 8 + (entryWords (.station 0 .pacerExcluded 0)).length ∧
    skipSum { s.capture with station := { q with skips := 1 } } ≠ 0 := by decide +kernel

theorem test_witness_port :
    PortIdle ready ∧ halfState bufFull 0 = .full ∧ halfState bufLock 1 = .full ∧
    (ready.setPort ⟨[], true, [0], some ⟨8191, 1⟩, false⟩).port.stream = some ⟨8191, 1⟩ ∧
    (ready.setPort ⟨[], false, [], none, true⟩).port.deferred = true ∧
    (ready.setPort ⟨[], true, [1], none, false⟩).port.answering = true ∧
    (ready.setPort ⟨[2], false, [], none, false⟩).port.partialWords = [2] := by decide +kernel

/-- The invariants meet at reset, the state from which the steps of the invariant statements may start, and a step goes on. -/
theorem test_witness_invariants :
    step (State.reset.setPending [.controlPeriod (quiet false)]) = .next (State.reset.setTick 1) := by rfl

end Sys2Proof.Tests
end

section
/-! PROOFS. What the two passes of the grant walk (R43, R44) hand out, and the bounds of a walk (R45). -/

namespace Sys2Proof.Machine

/-! ### Totals and items of the passes, one item at a time -/

/-- The total draw demand of a list, the counterpart of `totalOffer`. -/
def totalDraw (items : List Item) : Nat := (items.map fun it => it.demand.toNat).sum

@[simp] theorem totalDraw_cons (it : Item) (r : List Item) :
    totalDraw (it :: r) = it.demand.toNat + totalDraw r := by
  simp [totalDraw]

@[simp] theorem totalOffer_cons (it : Item) (r : List Item) :
    totalOffer (it :: r) = offerOf it + totalOffer r := by
  simp [totalOffer]

@[simp] theorem drawTotal_cons (p : Item × Int) (r : List (Item × Int)) :
    drawTotal (p :: r) = p.2.toNat + drawTotal r := by
  simp [drawTotal]

@[simp] theorem supplyTotal_cons (p : Item × Int) (r : List (Item × Int)) :
    supplyTotal (p :: r) = (-p.2).toNat + supplyTotal r := by
  simp [supplyTotal]

theorem natCast_drawTotal (l : List (Item × Int)) :
    (drawTotal l : Int) = (l.map fun p => (p.2.toNat : Int)).sum := by
  simp [drawTotal, Nat.cast_list_sum, Function.comp_def]

theorem natCast_supplyTotal (l : List (Item × Int)) :
    (supplyTotal l : Int) = (l.map fun p => ((-p.2).toNat : Int)).sum := by
  simp [supplyTotal, Nat.cast_list_sum, Function.comp_def]

/-! ### The draw pass -/

/-- The grants of a list are draw grants: each lies between 0 and its item's draw demand, so a supply item has grant 0. -/
def DrawGrants (l : List (Item × Int)) : Prop := ∀ p ∈ l, 0 ≤ p.2 ∧ p.2 ≤ p.1.demand.toNat

theorem drawGrants_cons {p : Item × Int} {r : List (Item × Int)} :
    DrawGrants (p :: r) ↔ (0 ≤ p.2 ∧ p.2 ≤ p.1.demand.toNat) ∧ DrawGrants r :=
  List.forall_mem_cons

/-- The draw pass grants every item of the list, in the list's order. -/
@[simp] theorem map_fst_drawPass (room : Nat) (items : List Item) : (drawPass room items).map Prod.fst = items := by
  induction items generalizing room with
  | nil => rfl
  | cons it r ih => simp [drawPass, ih]

theorem drawGrants_drawPass (room : Nat) (items : List Item) : DrawGrants (drawPass room items) := by
  induction items generalizing room with
  | nil => simp [DrawGrants, drawPass]
  | cons it r ih =>
    refine drawGrants_cons.2 ⟨?_, ih _⟩
    dsimp only
    omega

/-- The draw pass hands out the whole draw demand, or its headroom where the demand exceeds it. -/
theorem drawTotal_drawPass (room : Nat) (items : List Item) :
    drawTotal (drawPass room items) = min (totalDraw items) room := by
  induction items generalizing room with
  | nil => simp [drawPass, drawTotal, totalDraw]
  | cons it r ih =>
    simp only [drawPass, drawTotal_cons, totalDraw_cons, ih, Int.toNat_natCast]
    omega

/-- A draw pass that cuts an item has less headroom than draw demand. -/
theorem room_lt_totalDraw_of_cut {room : Nat} {items : List Item} {p : Item × Int}
    (hp : p ∈ drawPass room items) (hcut : p.2 < p.1.demand) (hdraw : 0 < p.1.demand) : room < totalDraw items := by
  induction items generalizing room with
  | nil => cases hp
  | cons it r ih =>
    rw [totalDraw_cons]
    rcases List.mem_cons.1 hp with rfl | hr
    · dsimp only at hcut hdraw
      omega
    · have hrest := ih hr
      omega

/-! ### The supply pass -/

/-- The supply pass leaves the grant of an item with no supply demand, and gives a supply item between its demand and 0. -/
theorem mem_supplyPass {room : Nat} {l : List (Item × Int)} {p : Item × Int} (hp : p ∈ supplyPass room l) :
    (0 ≤ p.1.demand ∧ p ∈ l) ∨ (p.1.demand < 0 ∧ p.1.demand ≤ p.2 ∧ p.2 ≤ 0) := by
  induction l generalizing room with
  | nil => cases hp
  | cons q r ih =>
    rcases List.mem_cons.1 hp with rfl | hr
    · by_cases hq : q.1.demand < 0
      · refine .inr ⟨hq, ?_⟩
        simp only [if_pos hq, offerOf]
        omega
      · refine .inl ⟨not_lt.1 hq, ?_⟩
        simp only [if_neg hq]
        exact List.mem_cons_self
    · exact (ih hr).imp_left fun ⟨hdraw, hmem⟩ => ⟨hdraw, List.mem_cons_of_mem _ hmem⟩

/-- The supply pass keeps the total of the draw grants. -/
theorem drawTotal_supplyPass (room : Nat) {l : List (Item × Int)} (hl : DrawGrants l) :
    drawTotal (supplyPass room l) = drawTotal l := by
  induction l generalizing room with
  | nil => rfl
  | cons q r ih =>
    obtain ⟨hq, hr⟩ := drawGrants_cons.1 hl
    simp only [supplyPass, drawTotal_cons, ih _ hr]
    split <;> omega

/-- The supply pass after draw grants hands out the whole offer, or its headroom where the offer exceeds it. -/
theorem supplyTotal_supplyPass (room : Nat) {l : List (Item × Int)} (hl : DrawGrants l) :
    supplyTotal (supplyPass room l) = min (totalOffer (l.map Prod.fst)) room := by
  induction l generalizing room with
  | nil => simp [supplyPass, supplyTotal, totalOffer]
  | cons q r ih =>
    obtain ⟨hq, hr⟩ := drawGrants_cons.1 hl
    simp only [supplyPass, supplyTotal_cons, List.map_cons, totalOffer_cons, ih _ hr, offerOf]
    split <;> omega

/-- A supply pass that cuts an item has less headroom than offer. -/
theorem room_lt_totalOffer_of_cut {room : Nat} {l : List (Item × Int)} {p : Item × Int}
    (hp : p ∈ supplyPass room l) (hcut : p.1.demand < p.2) (hsupply : p.1.demand < 0) :
    room < totalOffer (l.map Prod.fst) := by
  induction l generalizing room with
  | nil => cases hp
  | cons q r ih =>
    rw [List.map_cons, totalOffer_cons]
    rcases List.mem_cons.1 hp with rfl | hr
    · dsimp only at hcut hsupply
      rw [if_pos hsupply] at hcut
      unfold offerOf at hcut ⊢
      omega
    · have hrest := ih hr
      omega

/-! ### The walk: its draw total, its supply total, its grants and its cuts -/

section
variable {imp exp grd : Nat} {items : List Item}

theorem drawTotal_walkItems : drawTotal (walkItems imp exp grd items) =
    min (totalDraw (walkOrder items)) (imp - grd + totalOffer (walkOrder items)) := by
  unfold walkItems
  rw [drawTotal_supplyPass _ (drawGrants_drawPass _ _), drawTotal_drawPass]

theorem supplyTotal_walkItems : supplyTotal (walkItems imp exp grd items) =
    min (totalOffer (walkOrder items)) (exp - grd + drawTotal (walkItems imp exp grd items)) := by
  unfold walkItems
  rw [supplyTotal_supplyPass _ (drawGrants_drawPass _ _), drawTotal_supplyPass _ (drawGrants_drawPass _ _),
    map_fst_drawPass]

/-- A grant of a walk is 0 or has the sign of its demand, and is not above it in magnitude. -/
theorem walkItems_grant_respects_demand {p : Item × Int} (hp : p ∈ walkItems imp exp grd items) :
    (p.2 = 0 ∨ (0 < p.2 ∧ 0 < p.1.demand) ∨ (p.2 < 0 ∧ p.1.demand < 0)) ∧ p.2.natAbs ≤ p.1.demand.natAbs := by
  rcases mem_supplyPass hp with ⟨hdraw, hmem⟩ | ⟨hsupply, hge, hle⟩
  · obtain ⟨hge, hle⟩ := drawGrants_drawPass _ _ p hmem
    omega
  · omega

/-- A walk that cuts a draw has more draw demand than its limit and all offers together. -/
theorem lt_totalDraw_of_walkItems_cut {p : Item × Int} (hp : p ∈ walkItems imp exp grd items)
    (hdraw : 0 < p.1.demand) (hcut : p.2 < p.1.demand) :
    imp - grd + totalOffer (walkOrder items) < totalDraw (walkOrder items) := by
  rcases mem_supplyPass hp with ⟨-, hmem⟩ | ⟨hsupply, -, -⟩
  · exact room_lt_totalDraw_of_cut hmem hcut hdraw
  · omega

/-- A walk that cuts a supply has more offer than its limit and all granted draws together. -/
theorem lt_totalOffer_of_walkItems_cut {p : Item × Int} (hp : p ∈ walkItems imp exp grd items)
    (hsupply : p.1.demand < 0) (hcut : p.1.demand < p.2) :
    exp - grd + drawTotal (walkItems imp exp grd items) < totalOffer (walkOrder items) := by
  have hroom := room_lt_totalOffer_of_cut hp hcut hsupply
  rw [map_fst_drawPass] at hroom
  unfold walkItems
  rwa [drawTotal_supplyPass _ (drawGrants_drawPass _ _)]

/-- Granted draws less granted supplies stay within the guarded limits: the draws are bounded by the import headroom and
the offers, and a supply pass that does not grant every offer ends at the export headroom. -/
theorem walkItems_within_limits (himp : grd ≤ imp) (hexp : grd ≤ exp) :
    -((exp : Int) - grd) ≤
        (drawTotal (walkItems imp exp grd items) : Int) - supplyTotal (walkItems imp exp grd items) ∧
      (drawTotal (walkItems imp exp grd items) : Int) - supplyTotal (walkItems imp exp grd items) ≤ (imp : Int) - grd := by
  have hd := drawTotal_walkItems (imp := imp) (exp := exp) (grd := grd) (items := items)
  have hs := supplyTotal_walkItems (imp := imp) (exp := exp) (grd := grd) (items := items)
  omega

/-- The two passes do not both cut: a cut draw makes the granted draws cover every offer, and then no supply is cut. -/
theorem walkItems_not_both_cut :
    ¬ ((∃ p ∈ walkItems imp exp grd items, 0 < p.1.demand ∧ p.2 < p.1.demand) ∧
      ∃ p ∈ walkItems imp exp grd items, p.1.demand < 0 ∧ p.1.demand < p.2) := by
  rintro ⟨⟨p, hp, hdraw, hcutDraw⟩, q, hq, hsupply, hcutSupply⟩
  have hdemand := lt_totalDraw_of_walkItems_cut hp hdraw hcutDraw
  have hoffer := lt_totalOffer_of_walkItems_cut hq hsupply hcutSupply
  rw [drawTotal_walkItems] at hoffer
  omega

end

/-- Settles O35: the sign and magnitude of each grant, the limits of the totals, and the cuts, each by its lemma. -/
theorem walkBounds : Obligations.WalkBounds := by
  unfold Obligations.WalkBounds
  intro imp exp grd items himp hexp
  refine ⟨fun _ hp => walkItems_grant_respects_demand hp, ?_, walkItems_not_both_cut⟩
  rw [← natCast_drawTotal, ← natCast_supplyTotal]
  exact walkItems_within_limits himp hexp

end Sys2Proof.Machine
end

section
/-! PROOFS. The envelope and the cut of a control period (R105), and the ramp of the setpoint (R106). -/

namespace Sys2Proof.Machine

/-! ### The limited target: band, then grant (R102, R103) -/

/-- The band-limited target lies between the limits of the band. -/
theorem bandLimit_within (l : Limits) (i : Int) : -(l.disMax : Int) ≤ bandLimit l i ∧ bandLimit l i ≤ l.chgMax := by
  unfold bandLimit
  omega

/-- Under a positive grant the limited target charges, by at most the grant's current. -/
theorem grantLimit_of_pos {g : Int} (hg : 0 < g) (q : Nat) (v : Word) (t : Int) :
    grantLimit q g v t = max 0 (min t (grantCurrent q g v)) := by
  unfold grantLimit
  split <;> omega

/-- Under a negative grant the limited target discharges, by at most the grant's current. -/
theorem grantLimit_of_neg {g : Int} (hg : g < 0) (q : Nat) (v : Word) (t : Int) :
    grantLimit q g v t = min 0 (max t (-(grantCurrent q g v : Int))) := by
  unfold grantLimit
  rw [if_neg fun h => by omega]
  split <;> omega

/-- Under a grant of 0 the limited target is 0. -/
@[simp] theorem grantLimit_zero (q : Nat) (v : Word) (t : Int) : grantLimit q 0 v t = 0 := by
  simp [grantLimit]

/-! ### The envelope and the cut (R105) -/

section
variable (l : Limits) (q : Nat) {g : Int} (v : Word)

theorem envelopeTop_of_pos (hg : 0 < g) : envelopeTop l q g v = min (l.chgMax : Int) (grantCurrent q g v) :=
  if_pos hg

theorem envelopeTop_of_nonpos (hg : g ≤ 0) : envelopeTop l q g v = 0 :=
  if_neg hg.not_gt

theorem envelopeBottom_of_neg (hg : g < 0) : envelopeBottom l q g v = -(min (l.disMax : Int) (grantCurrent q g v)) :=
  if_pos hg

theorem envelopeBottom_of_nonneg (hg : 0 ≤ g) : envelopeBottom l q g v = 0 :=
  if_neg hg.not_gt

end

/-- The envelope contains the limited target: the sign of the grant leaves one direction open, and there band and grant
bound the target as they bound the envelope's end. -/
theorem limitedTarget_within_envelope (l : Limits) (q : Nat) (g : Int) (v : Word) (base : Int) :
    envelopeBottom l q g v ≤ grantLimit q g v (bandLimit l base) ∧
      grantLimit q g v (bandLimit l base) ≤ envelopeTop l q g v := by
  have hband := bandLimit_within l base
  rcases lt_trichotomy g 0 with hneg | rfl | hpos
  · rw [envelopeTop_of_nonpos l q v hneg.le, envelopeBottom_of_neg l q v hneg, grantLimit_of_neg hneg]
    omega
  · rw [grantLimit_zero]
    exact envelope_zero l q 0 v
  · rw [envelopeTop_of_pos l q v hpos, envelopeBottom_of_nonneg l q v hpos.le, grantLimit_of_pos hpos]
    omega

section
variable {top bottom s : Int}

theorem cutSetpoint_of_inside (hbottom : bottom ≤ s) (htop : s ≤ top) : cutSetpoint top bottom s = s := by
  unfold cutSetpoint
  rw [if_neg fun h => h.2.not_ge htop, if_neg fun h => h.2.not_ge hbottom]

theorem cutSetpoint_of_above (hs : 0 < s) (htop : top < s) : cutSetpoint top bottom s = top :=
  if_pos ⟨hs, htop⟩

theorem cutSetpoint_of_below (hs : s < 0) (hbottom : s < bottom) : cutSetpoint top bottom s = bottom := by
  unfold cutSetpoint
  rw [if_neg fun h => h.1.not_gt hs, if_pos ⟨hs, hbottom⟩]

end

/-- Settles O21: the ends of the envelope by the sign of the grant, the cut by the place of the setpoint, and the two
inclusions by their lemmas. -/
theorem envelopeAndCut : Obligations.EnvelopeAndCut := by
  unfold Obligations.EnvelopeAndCut
  intro l q g v s base ig top bottom
  obtain ⟨hbottom, htop⟩ := envelope_zero l q g v
  obtain ⟨hlimitedBottom, hlimitedTop⟩ := limitedTarget_within_envelope l q g v base
  exact ⟨envelopeTop_of_pos l q v, envelopeTop_of_nonpos l q v, envelopeBottom_of_neg l q v,
    envelopeBottom_of_nonneg l q v, fun ⟨hge, hle⟩ => cutSetpoint_of_inside hge hle,
    fun ⟨hs, habove⟩ => cutSetpoint_of_above hs habove, fun ⟨hs, hbelow⟩ => cutSetpoint_of_below hs hbelow,
    hbottom, htop, hlimitedBottom, hlimitedTop⟩

/-! ### Opposite signs -/

/-- Two currents of opposite signs. -/
def Opposite (a b : Int) : Prop := 0 < a ∧ b < 0 ∨ a < 0 ∧ 0 < b

theorem signOf_mul_eq_neg_one_iff (a b : Int) : signOf a * signOf b = -1 ↔ Opposite a b := by
  unfold signOf Opposite
  split_ifs <;> omega

theorem signOf_neg (x : Int) : signOf (-x) = -signOf x := by
  unfold signOf
  split_ifs <;> omega

theorem moveToward_neg (r : Nat) (c goal : Int) : moveToward r (-c) (-goal) = -moveToward r c goal := by
  unfold moveToward
  split_ifs <;> omega

/-! ### The ramp, case by case (R106) -/

section
variable (r : Nat) {s c t : Int}

theorem rampSetpoint_self (s t : Int) : rampSetpoint r s t t = t :=
  if_pos rfl

/-- A setpoint that was cut to 0 from the sign opposite to the target stays at 0. -/
theorem rampSetpoint_zero_of_opposite (h : Opposite s t) : rampSetpoint r s 0 t = 0 := by
  have hne : (0 : Int) ≠ t := by unfold Opposite at h; omega
  unfold rampSetpoint
  rw [if_neg hne, if_pos ⟨rfl, (signOf_mul_eq_neg_one_iff s t).2 h⟩]

/-- A cut setpoint of the sign opposite to the target moves toward 0. -/
theorem rampSetpoint_of_opposite (h : Opposite c t) : rampSetpoint r s c t = moveToward r c 0 := by
  have hne : c ≠ t ∧ c ≠ 0 := by unfold Opposite at h; omega
  unfold rampSetpoint
  rw [if_neg hne.1, if_neg fun h0 => hne.2 h0.1, if_pos ((signOf_mul_eq_neg_one_iff c t).2 h)]

/-- In every other case the cut setpoint moves toward the target. -/
theorem rampSetpoint_of_not_opposite (hne : c ≠ t) (hzero : ¬ (c = 0 ∧ Opposite s t)) (h : ¬ Opposite c t) :
    rampSetpoint r s c t = moveToward r c t := by
  rw [← signOf_mul_eq_neg_one_iff] at hzero h
  unfold rampSetpoint
  rw [if_neg hne, if_neg hzero, if_neg h]

/-- The ramp treats the two directions of current alike. -/
theorem rampSetpoint_neg (s c t : Int) : rampSetpoint r (-s) (-c) (-t) = -rampSetpoint r s c t := by
  have hzero := moveToward_neg r c 0
  rw [neg_zero] at hzero
  unfold rampSetpoint
  simp only [neg_inj, neg_eq_zero, signOf_neg, neg_mul_neg, moveToward_neg, hzero]
  split_ifs <;> simp

/-! ### No sign is crossed in one period (R106) -/

/-- After a positive setpoint the ramp gives no negative one: it moves toward a target that is not negative, or stops
at 0. -/
theorem rampSetpoint_nonneg (hs : 0 < s) (hc : 0 ≤ c) : 0 ≤ rampSetpoint r s c t := by
  rcases le_or_gt 0 t with ht | ht
  · exact (rampSetpoint_within r s c t 0 (max c t) (by omega) (by omega) (by omega)).1
  · rcases hc.eq_or_lt with rfl | hpos
    · exact (rampSetpoint_zero_of_opposite r (.inl ⟨hs, ht⟩)).ge
    · rw [rampSetpoint_of_opposite r (.inl ⟨hpos, ht⟩)]
      have hstop := (moveToward_between r c 0).1
      omega

theorem rampSetpoint_nonpos (hs : s < 0) (hc : c ≤ 0) : rampSetpoint r s c t ≤ 0 := by
  have h := rampSetpoint_nonneg r (t := -t) (neg_pos.2 hs) (neg_nonneg.2 hc)
  rwa [rampSetpoint_neg, neg_nonneg] at h

end

/-- Settles O22: the four cases of the ramp, its range and its sign, each by its lemma. -/
theorem rampOfTheSetpoint : Obligations.RampOfTheSetpoint := by
  unfold Obligations.RampOfTheSetpoint
  intro r s c t
  refine ⟨?same, ?reversal, ?toTarget, fun h => rampSetpoint_of_opposite r h, ?range,
    fun hs hc => rampSetpoint_nonneg r hs hc, fun hs hc => rampSetpoint_nonpos r hs hc⟩
  case same =>
    rintro rfl
    exact rampSetpoint_self r s c
  case reversal =>
    rintro - rfl h
    exact rampSetpoint_zero_of_opposite r h
  case toTarget =>
    intro hne hzero hsigns
    have hsame : ¬ Opposite c t := by unfold Opposite; omega
    exact rampSetpoint_of_not_opposite r hne hzero hsame
  case range =>
    intro lo hi hlo hhi hloc hchi hlot hthi
    exact rampSetpoint_within r s c t lo hi ⟨hlo, hhi⟩ ⟨hloc, hchi⟩ ⟨hlot, hthi⟩

end Sys2Proof.Machine
end

section
/-! PROOFS. The words of the STATUS answer as numbers (R162), and what a STATUS on an idle port does. -/

namespace Sys2Proof.Machine

/-! ### The words of the answer -/

/-- Joined fields weigh as digits do: the upper field counts in units of one more than the lower field's largest value. -/
theorem toNat_append_eq_add {m n : Nat} (x : BitVec m) (y : BitVec n) :
    (x ++ y).toNat = x.toNat * 2 ^ n + y.toNat := by
  rw [BitVec.toNat_append, ← Nat.shiftLeft_add_eq_or_of_lt y.isLt, Nat.shiftLeft_eq]

/-- The first data word holds its four fields side by side, the start-up state lowest (section 11.5). -/
theorem statusWord_toNat (st : Startup) (b : Buffer) :
    (statusWord st b).toNat = (startupCode st).toNat + 4 * (halfCode b.half0).toNat +
      16 * (halfCode b.half1).toNat + 64 * b.lockout.toNat := by
  unfold statusWord
  simp only [toNat_append_eq_add, BitVec.toNat_ofBool, BitVec.ofNat_eq_ofNat, BitVec.toNat_zero]
  omega

/-- A number up to the saturation value of a word is carried by the word unchanged. -/
theorem toNat_word_of_le {n : Nat} (h : n ≤ Config.max16) : (BitVec.ofNat 16 n).toNat = n :=
  Nat.mod_eq_of_lt (Nat.lt_succ_of_le h)

/-! ### The command -/

/-- An answer begun changes the port alone, and leaves it answering with the given words. -/
theorem answerWith_frame (ws : List Word) (s : State) :
    PortFrame s (answerWith ws s) ∧ (answerWith ws s).capture = s.capture ∧ (answerWith ws s).buffer = s.buffer ∧
      (answerWith ws s).port = answered ws := by
  simp [PortFrame, answerWith]

/-- On an idle port the one word of a STATUS completes it, and the answer is formed from the state of that moment. -/
theorem exec_status_of_idle {s : State} (h : PortIdle s) :
    exec .status s = .next (answerWith (statusAnswer s.loader.startup s.buffer s.capture) s) :=
  congrArg Host.Outcome.next (portWords_status s h)

/-- Settles O50: the answer and the frame by `answerWith_frame`, then each data word field by field. -/
theorem statusAnswers : Obligations.StatusAnswers := by
  unfold Obligations.StatusAnswers
  intro s hidle
  obtain ⟨hframe, hcapture, hbuffer, hport⟩ := answerWith_frame (statusAnswer s.loader.startup s.buffer s.capture) s
  refine ⟨_, _, _, _, exec_status_of_idle hidle, hframe, hcapture, hbuffer, hport, ?fields, ?position, ?skips⟩
  case fields =>
    rw [statusWord_toNat]
    congr 4
    · cases s.loader.startup <;> rfl
    · cases s.buffer.half0 <;> rfl
    · cases s.buffer.half1 <;> rfl
    · cases s.buffer.lockout <;> rfl
  case position =>
    intro hpos
    have hfits : s.buffer.writePos ≤ Config.max16 := hpos.trans (by decide)
    refine toNat_word_of_le ?_
    split
    · exact Nat.zero_le _
    · exact hfits
  case skips => exact toNat_word_of_le (Nat.min_le_right _ _)

end Sys2Proof.Machine
end

section
/-! PROOFS. Every step of the part is one of a few events, whichever row names it, and an invariant that each event keeps is kept
by every step. -/

namespace Sys2Proof.Machine

/-- The judgements that the console commands to channels apply, each with the state that it reads (R147 to R149, R127). -/
inductive IsJudge (arg : Word) : (State → Channel → Judged) → Prop where
  | start : IsJudge arg fun t => judgeStart t arg
  | abort : IsJudge arg fun _ => judgeAbort
  | forceStop : IsJudge arg fun _ => judgeForceStop
  | clearFault : IsJudge arg fun _ => judgeClearFault
  | setHoldMode : IsJudge arg fun _ => judgeSetHoldMode arg
  | nextStep : IsJudge arg fun _ => judgeNextStep

/-- The actions that a taken CONSOLE frame can have: on channels, on the hold flag, or none (R145). -/
inductive IsAction (f : ConsoleFrame) : (State → State × Result) → Prop where
  | channels (judge : State → Channel → Judged) (h : IsJudge f.arg judge) :
    IsAction f fun t => onChannels (judge t) f.channel.toNat t
  | hold (flag : Bool) : IsAction f (actHold flag f)
  | none : IsAction f (actNone f)

/-- What the events of the link do (chapters 1 to 4). -/
inductive LinkEvent (s : State) : State → Prop where
  | rollover : LinkEvent s (rollover s)
  | mark (f : MarkFrame) (arr : Arrival) : LinkEvent s (receiveMark f arr s)
  | window : LinkEvent s (passWindow s)
  | markReadback (bytes : List Byte) : LinkEvent s (readMark bytes s)
  | latch : LinkEvent s (latchSlot s)
  | share : LinkEvent s (sendShare s)
  | walkStart : LinkEvent s (startWalk s)
  | walkCompletion : LinkEvent s (completeWalk s)
  | shareFrame (f : ShareFrame) (arr : Arrival) : LinkEvent s (receiveShare f arr s)
  | shareReadback (bytes : List Byte) : LinkEvent s (readShare bytes s)

/-- What a word on the logger port does: it changes the port alone, or completes a RELEASE or a FLUSH (R161). -/
inductive PortMove (s : State) : State → Prop where
  | port (p : Port) : PortMove s (s.setPort p)
  | release (h : Word) : PortMove s (doRelease h s)
  | flush : PortMove s (doFlush s)

/-- What a command can do to the state: the rows that name an outcome inside a larger event are that event or nothing (log
4). -/
inductive Event (s : State) : State → Prop where
  | idle : Event s s
  | reset : Event s (resetState s)
  | header (header : List Byte) : Event s (readHeader header s)
  | image (rest : List Byte) : Event s (readComplete rest s)
  | period (inp : PeriodInput) : Event s (periodState s inp)
  | link {t : State} (h : LinkEvent s t) : Event s t
  | console (c : Command) (f : ConsoleFrame) (arr : Arrival) (act : State → State × Result) (h : IsAction f act) :
    Event s (takeConsole c f arr act s)
  | writer : Event s (takeEntry s)
  | words (writing : Bool) (ws : List Word) : Event s (portWords writing ws s)
  | move {t : State} (h : PortMove s t) : Event s t

/-! ### The rows that name an outcome -/

theorem Event.roundBy (cause : RoundCause) (s : State) : Event s (roundBy cause s) := by
  cases cause with
  | rollover => exact .link .rollover
  | mark f arr => exact .link (.mark f arr)

theorem Event.missBy (cause : MissCause) (s : State) : Event s (missBy cause s) := by
  cases cause with
  | windowPasses => exact .link .window
  | readback bytes => exact .link (.markReadback bytes)

/-- An event that is taken where the named thing comes about, and else does not occur (log 4). -/
theorem Event.takenWhen {s t : State} (came : Bool) (h : Event s t) : Event s (takenWhen came t s) := by
  cases came
  · exact .idle
  · exact h

theorem Event.periodWhen (came : Bool) (inp : PeriodInput) (s : State) : Event s (periodWhen came inp s) := by
  cases came
  · exact .idle
  · exact .period inp

theorem Event.word (writing : Bool) (w : Word) (s : State) : Event s (portWord writing s w) := .words writing [w]

/-- READ_WORD changes the port alone. -/
theorem Event.readWord {s t : State} (h : execReadWord s = .next t) : Event s t := by
  unfold execReadWord at h
  split at h
  · cases h; exact .idle
  · split at h
    · cases h; exact .move (.port _)
    · cases h

/-! ### Every command -/

/-- What a command answers is an event. -/
theorem exec_event {i : Instr} {s t : State} (h : exec i s = .next t) : Event s t := by
  cases i
  case readWord => exact .readWord h
  all_goals (injection h with h; subst h)
  case reset => exact .reset
  case profileHeaderRead header => exact .header header
  case profileReadComplete rest => exact .image rest
  case controlPeriod inp => exact .period inp
  case stopLevelChange | filterLevelChange | persistenceDetect | closeLimit | openLimit | frameBoundary | sampleCapture =>
    exact .periodWhen _ _ _
  case roundStart => exact .link .rollover
  case selfStart => exact .takenWhen _ (.link .rollover)
  case cautionOff | islandedOmitted | rejoin => exact .takenWhen _ (.roundBy _ _)
  case demandLatch => exact .link .latch
  case shareFrameSend => exact .link .share
  case walkStart => exact .link .walkStart
  case walkCompletion => exact .link .walkCompletion
  case markReceived f arr => exact .link (.mark f arr)
  case enterLocked f arr => exact .takenWhen _ (.link (.mark f arr))
  case markWindowPasses => exact .link .window
  case coastLimit => exact .takenWhen _ (.missBy _ _)
  case returnToSearch => exact .takenWhen _ (.link .window)
  case markReadback bytes => exact .link (.markReadback bytes)
  case claimFailed bytes => exact .takenWhen _ (.link (.markReadback bytes))
  case shareReadback bytes => exact .link (.shareReadback bytes)
  case numberConflict bytes => exact .takenWhen _ (.link (.shareReadback bytes))
  case shareReceived f arr => exact .link (.shareFrame f arr)
  case frameCheckFailed => exact .idle
  case start f arr => exact .console _ f arr _ (.channels _ .start)
  case abort f arr => exact .console _ f arr _ (.channels _ .abort)
  case forceStop f arr => exact .console _ f arr _ (.channels _ .forceStop)
  case hold f arr => exact .console _ f arr _ (.hold true)
  case resume f arr => exact .console _ f arr _ (.hold false)
  case clearFault f arr => exact .console _ f arr _ (.channels _ .clearFault)
  case setHoldMode f arr => exact .console _ f arr _ (.channels _ .setHoldMode)
  case nextStep f arr => exact .console _ f arr _ (.channels _ .nextStep)
  case noCommand f arr => exact .console _ f arr _ .none
  case entryWriterTake => exact .writer
  case status => exact .words false [1]
  case read args => exact .words false (2 :: args)
  case release args => exact .words false (3 :: args)
  case flush writing => exact .words writing [4]
  case deferredFlush =>
    split
    · exact .move .flush
    · exact .idle
  case unknownCommandWord w =>
    split
    · exact .idle
    · exact .word false w s
  case commandTimeout => exact .move (.port _)
  case answerLastByteSent =>
    split
    · exact .move (.port _)
    · exact .idle

/-- A step is an event of the state whose queue has lost its front. -/
theorem step_event {s t : State} (h : step s = .next t) : ∃ rest, Event (s.setPending rest) t := by
  unfold step at h
  split at h
  · cases h; exact ⟨s.pending, .idle⟩
  · exact ⟨_, exec_event h⟩

/-- What every event keeps, and the queue of commands does not matter to, every step keeps. -/
theorem step_keeps {P : State → Prop} (hp : ∀ s rest, P s → P (s.setPending rest))
    (he : ∀ s t, Event s t → P s → P t) {s t : State} (h : step s = .next t) (hs : P s) : P t := by
  obtain ⟨rest, ht⟩ := step_event h
  exact he _ _ ht (hp _ rest hs)

end Sys2Proof.Machine
end

section
/-! PROOFS. What each event leaves alone, and that every event keeps the result buffer, the entry queues and the heard table in
order. -/

namespace Sys2Proof.Machine

/-! ### What an event leaves alone -/

theorem settleReports_frame (s : State) (r : Reports) : LinkFrame s (settleReports s r) :=
  ⟨rfl, rfl, rfl, rfl, rfl, rfl, rfl, rfl, rfl⟩

theorem settleRound_frame (s : State) (r : Reports) : LinkFrame s (settleRound s r) := by
  unfold settleRound; dsimp only
  split <;> exact ⟨rfl, rfl, rfl, rfl, rfl, rfl, rfl, rfl, rfl⟩

theorem LinkFrame.refl (s : State) : LinkFrame s s := ⟨rfl, rfl, rfl, rfl, rfl, rfl, rfl, rfl, rfl⟩

theorem LinkFrame.trans {s t u : State} (h : LinkFrame s t) (h' : LinkFrame t u) : LinkFrame s u := by
  obtain ⟨a, b, c, d, e, f, g, i, j⟩ := h
  obtain ⟨a', b', c', d', e', f', g', i', j'⟩ := h'
  exact ⟨a'.trans a, b'.trans b, c'.trans c, d'.trans d, e'.trans e, f'.trans f, g'.trans g, i'.trans i, j'.trans j⟩

theorem sendMark_frame (s : State) : LinkFrame s (sendMark s) := by
  unfold sendMark; split
  · exact ⟨rfl, rfl, rfl, rfl, rfl, rfl, rfl, rfl, rfl⟩
  · exact .refl s

/-- What the lock unit makes of the rollover. -/
abbrev rolloverLock (s : State) : LockOut := lockRollover s.loader.settings.station s.heard.map s.lock

/-- The state at the timer's own rollover, before the round start is settled: the timer stands at phase 0 of the next round and
the lock unit has acted (R1, R2). -/
def turned (s : State) : State :=
  { s with
    lock := (rolloverLock s).lock
    timer := { s.timer with phase := 0, round := s.timer.round + 1, settled := !windowEvaluated (rolloverLock s).lock } }

theorem isReady_iff (s : State) : isReady s = true ↔ Ready s := decide_eq_true_iff

theorem rollover_of_ready {s : State} (h : Ready s) :
    rollover s = sendMark (settleRound (turned s) (rolloverLock s).reports) :=
  if_pos ((isReady_iff s).2 h)

theorem rollover_of_not_ready {s : State} (h : ¬ Ready s) : rollover s = s :=
  if_neg (mt (isReady_iff s).1 h)

theorem rollover_frame (s : State) : LinkFrame s (rollover s) := by
  by_cases h : Ready s
  · rw [rollover_of_ready h]
    exact LinkFrame.trans (settleRound_frame (turned s) _) (sendMark_frame _)
  · rw [rollover_of_not_ready h]; exact .refl s

/-- The state re-phased to a mark, with the lock unit given (R9). -/
def rephased (s : State) (f : MarkFrame) (arr : Arrival) (lock : Lock) : State :=
  { advanceTo s arr.now with lock := lock, timer := rephase (advanceTo s arr.now) f arr }

theorem receiveMark_of_not_ready {f : MarkFrame} {arr : Arrival} {s : State} (h : ¬ Ready s) : receiveMark f arr s = s :=
  if_neg (mt (isReady_iff s).1 h)

theorem receiveMark_ignored {f : MarkFrame} {arr : Arrival} {s : State} (h : Ready s)
    (hj : judgeMark (advanceTo s arr.now) f arr = .ignored) : receiveMark f arr s = advanceTo s arr.now := by
  unfold receiveMark; rw [if_pos ((isReady_iff s).2 h)]; dsimp only; rw [hj]

theorem receiveMark_round {f : MarkFrame} {arr : Arrival} {s : State} (h : Ready s) {out : LockOut}
    (hj : judgeMark (advanceTo s arr.now) f arr = .followed out true) :
    receiveMark f arr s = settleRound (rephased s f arr (backoffDown out.lock)) out.reports := by
  unfold receiveMark; rw [if_pos ((isReady_iff s).2 h)]; dsimp only; rw [hj]; rfl

theorem receiveMark_reports {f : MarkFrame} {arr : Arrival} {s : State} (h : Ready s) {out : LockOut}
    (hj : judgeMark (advanceTo s arr.now) f arr = .followed out false) :
    receiveMark f arr s = settleReports (rephased s f arr out.lock) out.reports := by
  unfold receiveMark; rw [if_pos ((isReady_iff s).2 h)]; dsimp only; rw [hj]; rfl

/-- What a checked MARK can do. -/
inductive Marked (f : MarkFrame) (arr : Arrival) (s : State) : State → Prop where
  | unready (h : ¬ Ready s) : Marked f arr s s
  | ignored (h : Ready s) (hj : judgeMark (advanceTo s arr.now) f arr = .ignored) : Marked f arr s (advanceTo s arr.now)
  | round (h : Ready s) (out : LockOut) (hj : judgeMark (advanceTo s arr.now) f arr = .followed out true) :
    Marked f arr s (settleRound (rephased s f arr (backoffDown out.lock)) out.reports)
  | reports (h : Ready s) (out : LockOut) (hj : judgeMark (advanceTo s arr.now) f arr = .followed out false) :
    Marked f arr s (settleReports (rephased s f arr out.lock) out.reports)

theorem receiveMark_cases (f : MarkFrame) (arr : Arrival) (s : State) : Marked f arr s (receiveMark f arr s) := by
  by_cases h : Ready s
  · cases hj : judgeMark (advanceTo s arr.now) f arr with
    | ignored => rw [receiveMark_ignored h hj]; exact .ignored h hj
    | followed out starts =>
      cases starts
      · rw [receiveMark_reports h hj]; exact .reports h out hj
      · rw [receiveMark_round h hj]; exact .round h out hj
  · rw [receiveMark_of_not_ready h]; exact .unready h

/-- What the lock unit makes of a passed window. -/
abbrev windowLock (s : State) : LockOut :=
  lockWindow s.loader.settings.station (decide (s.member.state = .excluded)) s.lock

/-- The state with the window settled, after the lock unit's action (R8). -/
def windowed (s : State) : State :=
  { advanceTo s (windowTicks s.loader.settings) with
    lock := (windowLock s).lock
    timer := { (advanceTo s (windowTicks s.loader.settings)).timer with settled := true } }

theorem passWindow_of_open {s : State} (h : windowOpen s = true) :
    passWindow s = settleReports (windowed s) (windowLock s).reports := if_pos h

theorem passWindow_of_not_open {s : State} (h : windowOpen s = false) : passWindow s = s := if_neg (by simp [h])

/-- What the lock unit makes of the readback of the own mark. -/
abbrev readbackLock (s : State) (f : MarkFrame) (c : Bool) (bytes : List Byte) : LockOut :=
  lockReadback s.loader.settings.station (Config.freeClaimDetail s.draws) (readbackSucceeds (markBytes f) bytes c) s.lock

/-- The state with the own mark off the line, after the lock unit's action (R6, R18). -/
def markRead (s : State) (lock : Lock) : State :=
  { s with draws := s.draws + 1, lock := lock, link := { s.link with line := none } }

theorem readMark_of_mark {s : State} {f : MarkFrame} {c : Bool} (h : markOnLine s = some (f, c)) (bytes : List Byte) :
    readMark bytes s = settleReports (markRead s (readbackLock s f c bytes).lock) (readbackLock s f c bytes).reports := by
  unfold readMark; rw [h]; rfl

theorem readMark_of_none {s : State} (h : markOnLine s = none) (bytes : List Byte) : readMark bytes s = s := by
  unfold readMark; rw [h]

/-- The state with the own share frame off the line. -/
def shareRead (s : State) : State := s.setLink { s.link with line := none }

theorem readShare_of_none {s : State} (h : shareOnLine s = none) (bytes : List Byte) : readShare bytes s = s := by
  unfold readShare; rw [h]

theorem readShare_cut {s : State} {f : ShareFrame} (h : shareOnLine s = some (f, true)) (bytes : List Byte) :
    readShare bytes s = shareRead s := by
  unfold readShare; rw [h]; rfl

/-- The own share frame read back: its announcement is taken into the own entry (R25). -/
def shareAnnounced (s : State) (f : ShareFrame) : State :=
  { shareRead s with
    heard := heardTake s.heard s.loader.settings.station (shareDemands f)
    member := { s.member with readbackFails := 0 } }

theorem readShare_success {s : State} {f : ShareFrame} (h : shareOnLine s = some (f, false)) {bytes : List Byte}
    (hb : readbackSucceeds (shareBytes f) bytes false = true) : readShare bytes s = shareAnnounced s f := by
  unfold readShare; rw [h]; dsimp only
  rw [if_neg (by decide), if_pos hb]; rfl

/-- The readback-failure count after one more failure (R64). -/
abbrev failsNow (s : State) : Nat := satInc s.member.readbackFails Config.conflictLimit

/-- The state with one more readback failure counted (R64). -/
def shareFailed (s : State) : State := (shareRead s).setMember { s.member with readbackFails := failsNow s }

/-- What a failed readback reports: the conflict at the third (R64). -/
abbrev failReports (s : State) : Reports := { Reports.nothing with conflict := decide (failsNow s = Config.conflictLimit) }

theorem readShare_failure {s : State} {f : ShareFrame} (h : shareOnLine s = some (f, false)) {bytes : List Byte}
    (hb : readbackSucceeds (shareBytes f) bytes false = false) :
    readShare bytes s = settleReports (shareFailed s) (failReports s) := by
  unfold readShare; rw [h]; dsimp only
  rw [if_neg (by decide), if_neg (by simp [hb])]; rfl

/-- What the readback of the own share frame can do. -/
inductive ShareRead (bytes : List Byte) (s : State) : State → Prop where
  | nothing (h : shareOnLine s = none) : ShareRead bytes s s
  | cut (f : ShareFrame) (h : shareOnLine s = some (f, true)) : ShareRead bytes s (shareRead s)
  | success (f : ShareFrame) (h : shareOnLine s = some (f, false)) : ShareRead bytes s (shareAnnounced s f)
  | failure (f : ShareFrame) (h : shareOnLine s = some (f, false)) :
    ShareRead bytes s (settleReports (shareFailed s) (failReports s))

theorem readShare_cases (bytes : List Byte) (s : State) : ShareRead bytes s (readShare bytes s) := by
  cases h : shareOnLine s with
  | none => rw [readShare_of_none h]; exact .nothing h
  | some x =>
    obtain ⟨f, c⟩ := x
    cases c
    · cases hb : readbackSucceeds (shareBytes f) bytes false
      · rw [readShare_failure h hb]; exact .failure f h
      · rw [readShare_success h hb]; exact .success f h
    · rw [readShare_cut h]; exact .cut f h

theorem receiveMark_frame (f : MarkFrame) (arr : Arrival) (s : State) : LinkFrame s (receiveMark f arr s) := by
  generalize ht : receiveMark f arr s = t
  cases ht ▸ receiveMark_cases f arr s with
  | unready h => exact .refl s
  | ignored h hj => exact .refl s
  | round h out hj => exact settleRound_frame (rephased s f arr _) _
  | reports h out hj => exact settleReports_frame (rephased s f arr _) _

theorem passWindow_frame (s : State) : LinkFrame s (passWindow s) := by
  cases h : windowOpen s
  · rw [passWindow_of_not_open h]; exact .refl s
  · rw [passWindow_of_open h]; exact settleReports_frame (windowed s) _

theorem readMark_frame (bytes : List Byte) (s : State) : LinkFrame s (readMark bytes s) := by
  cases h : markOnLine s with
  | none => rw [readMark_of_none h]; exact .refl s
  | some x => rw [readMark_of_mark (f := x.1) (c := x.2) h]; exact settleReports_frame (markRead s _) _

theorem latchSlot_frame (s : State) : LinkFrame s (latchSlot s) := by
  unfold latchSlot; split
  · exact ⟨rfl, rfl, rfl, rfl, rfl, rfl, rfl, rfl, rfl⟩
  · exact .refl s

/-- The start of slot n touches the round timer and the transceiver alone. -/
theorem sendShare_touches (s : State) :
    sendShare s = { s with timer := (sendShare s).timer, link := (sendShare s).link } := by
  unfold sendShare; split
  · dsimp only
    split
    · split <;> rfl
    · rfl
  · rfl

theorem sendShare_frame (s : State) : LinkFrame s (sendShare s) := by
  rw [sendShare_touches]; exact ⟨rfl, rfl, rfl, rfl, rfl, rfl, rfl, rfl, rfl⟩

theorem startWalk_frame (s : State) : LinkFrame s (startWalk s) := by
  unfold startWalk; split
  · exact ⟨rfl, rfl, rfl, rfl, rfl, rfl, rfl, rfl, rfl⟩
  · exact .refl s

theorem completeWalk_frame (s : State) : LinkFrame s (completeWalk s) := by
  unfold completeWalk; split
  · exact ⟨rfl, rfl, rfl, rfl, rfl, rfl, rfl, rfl, rfl⟩
  · exact .refl s

theorem acceptShare_frame (f : ShareFrame) (s : State) : LinkFrame s (acceptShare f s) := by
  unfold acceptShare; dsimp only
  split <;> exact ⟨rfl, rfl, rfl, rfl, rfl, rfl, rfl, rfl, rfl⟩

theorem receiveShare_frame (f : ShareFrame) (arr : Arrival) (s : State) : LinkFrame s (receiveShare f arr s) := by
  unfold receiveShare; split
  · dsimp only
    split
    · exact acceptShare_frame f (advanceTo s arr.now)
    · exact .refl s
  · exact .refl s

theorem readShare_frame (bytes : List Byte) (s : State) : LinkFrame s (readShare bytes s) := by
  generalize ht : readShare bytes s = t
  cases ht ▸ readShare_cases bytes s with
  | nothing h => exact .refl s
  | cut f h => exact .refl s
  | success f h => exact .refl s
  | failure f h => exact settleReports_frame (shareFailed s) _

theorem LinkEvent.frame {s t : State} (h : LinkEvent s t) : LinkFrame s t := by
  cases h
  case rollover => exact rollover_frame s
  case mark f arr => exact receiveMark_frame f arr s
  case window => exact passWindow_frame s
  case markReadback bytes => exact readMark_frame bytes s
  case latch => exact latchSlot_frame s
  case share => exact sendShare_frame s
  case walkStart => exact startWalk_frame s
  case walkCompletion => exact completeWalk_frame s
  case shareFrame f arr => exact receiveShare_frame f arr s
  case shareReadback bytes => exact readShare_frame bytes s

/-- A command to channels touches the channels alone. -/
theorem onChannels_touches (judge : Channel → Judged) (target : Nat) (s : State) :
    (onChannels judge target s).1 = s.setChannels (onChannels judge target s).1.channels := by
  unfold onChannels; split <;> rfl

theorem actHold_touches (flag : Bool) (f : ConsoleFrame) (s : State) :
    (actHold flag f s).1 =
      (s.setConsole (actHold flag f s).1.console).setCapture (actHold flag f s).1.capture := by
  unfold actHold; split
  · rfl
  · split <;> rfl

/-- An action touches the channels, the console decoder and the station queue alone. -/
theorem IsAction.keeps {f : ConsoleFrame} {act : State → State × Result} (h : IsAction f act) (s : State) :
    ConsoleKeeps s (act s).1 := by
  cases h with
  | channels judge h =>
    dsimp only
    rw [onChannels_touches]
    exact ⟨rfl, rfl, rfl, rfl, rfl, rfl, rfl, rfl, rfl, rfl, rfl, rfl, rfl, rfl, rfl⟩
  | hold flag =>
    have hc : (actHold flag f s).1.capture.channels = s.capture.channels := by
      unfold actHold; split
      · rfl
      · split <;> rfl
    rw [actHold_touches]
    exact ⟨rfl, rfl, rfl, rfl, rfl, rfl, rfl, rfl, rfl, rfl, rfl, rfl, hc, rfl, rfl⟩
  | none => exact ⟨rfl, rfl, rfl, rfl, rfl, rfl, rfl, rfl, rfl, rfl, rfl, rfl, rfl, rfl, rfl⟩

theorem takeConsole_keeps {f : ConsoleFrame} {act : State → State × Result} (h : IsAction f act) (c : Command) (arr : Arrival)
    (s : State) : ConsoleKeeps s (takeConsole c f arr act s) := by
  unfold takeConsole; split
  · dsimp only
    split
    · exact h.keeps (advanceTo s arr.now)
    · exact ⟨rfl, rfl, rfl, rfl, rfl, rfl, rfl, rfl, rfl, rfl, rfl, rfl, rfl, rfl, rfl⟩
  · exact ⟨rfl, rfl, rfl, rfl, rfl, rfl, rfl, rfl, rfl, rfl, rfl, rfl, rfl, rfl, rfl⟩

/-! ### The logger port: what a word can do -/

theorem doRead_move (h o c : Word) (s : State) : PortMove s (doRead h o c s) := by
  unfold doRead; split <;> exact .port _

theorem commandWords_move (writing : Bool) (ws : List Word) (s : State) : PortMove s (commandWords writing ws s) := by
  unfold commandWords
  split
  · split
    · exact .port _
    · split
      · split
        · exact .port _
        · exact .flush
      · split <;> exact .port _
  · split
    · exact .release _
    · exact .port _
  · exact .port _
  · exact doRead_move _ _ _ s
  · exact .port _

theorem portWord_move (writing : Bool) (s : State) (w : Word) : PortMove s (portWord writing s w) := by
  unfold portWord; split
  · exact .port s.port
  · exact commandWords_move _ _ _

/-- What every move on the port keeps, the words of a command keep. -/
theorem portWords_keeps {P : State → Prop} (hm : ∀ s t, PortMove s t → P s → P t) (writing : Bool) (ws : List Word)
    {s : State} (hs : P s) : P (portWords writing ws s) := by
  unfold portWords
  induction ws generalizing s with
  | nil => exact hs
  | cons w ws ih => exact ih (hm _ _ (portWord_move writing s w) hs)

/-- An answer begun changes the port alone. -/
theorem answerWith_touches (ws : List Word) (s : State) : answerWith ws s = s.setPort (answerWith ws s).port := rfl

/-- A GAP touches the result buffer and the capture unit alone. -/
theorem writeGap_touches (s : State) :
    (writeGap s).1 = (s.setBuffer (writeGap s).1.buffer).setCapture (writeGap s).1.capture := by
  unfold writeGap; dsimp only; split <;> rfl

theorem writeEntry_touches (n : QueueName) (e : Entry) (s : State) :
    writeEntry n e s = (s.setBuffer (writeEntry n e s).buffer).setCapture (writeEntry n e s).capture := by
  unfold writeEntry; dsimp only; split <;> rfl

/-- The entry writer touches the result buffer and the capture unit alone. -/
theorem takeEntry_touches (s : State) :
    takeEntry s = (s.setBuffer (takeEntry s).buffer).setCapture (takeEntry s).capture := by
  unfold takeEntry
  split
  · rfl
  · split
    · rfl
    · unfold writeTaken
      split
      · rfl
      · split
        · rw [writeEntry_touches]; rfl
        · dsimp only
          split
          · rw [writeEntry_touches, writeGap_touches]; rfl
          · rw [writeGap_touches]; rfl

/-- A word on the port touches the capture unit, the result buffer and the port alone. -/
theorem PortMove.touches {s t : State} (h : PortMove s t) :
    t = ((s.setCapture t.capture).setBuffer t.buffer).setPort t.port := by
  cases h with
  | port p => rfl
  | release h =>
    unfold doRelease
    split
    · split
      · dsimp only
        rw [answerWith_touches, writeGap_touches]; rfl
      · rfl
    · rfl
  | flush =>
    unfold doFlush
    split
    · rfl
    · split <;> rfl

theorem PortMove.frame {s t : State} (h : PortMove s t) : PortFrame s t := by
  rw [h.touches]
  exact ⟨rfl, rfl, rfl, rfl, rfl, rfl, rfl, rfl, rfl, rfl, rfl, rfl, rfl, rfl⟩

theorem PortFrame.refl (s : State) : PortFrame s s :=
  ⟨rfl, rfl, rfl, rfl, rfl, rfl, rfl, rfl, rfl, rfl, rfl, rfl, rfl, rfl⟩

theorem PortFrame.trans {s t u : State} (h : PortFrame s t) (h' : PortFrame t u) : PortFrame s u := by
  obtain ⟨a, b, c, d, e, f, g, i, j, k, l, m, n, o⟩ := h
  obtain ⟨a', b', c', d', e', f', g', i', j', k', l', m', n', o'⟩ := h'
  exact ⟨a'.trans a, b'.trans b, c'.trans c, d'.trans d, e'.trans e, f'.trans f, g'.trans g, i'.trans i, j'.trans j,
    k'.trans k, l'.trans l, m'.trans m, n'.trans n, o'.trans o⟩

theorem portWords_frame (writing : Bool) (ws : List Word) (s : State) : PortFrame s (portWords writing ws s) :=
  portWords_keeps (P := PortFrame s) (fun _ _ hm h => h.trans hm.frame) writing ws (.refl s)

theorem takeEntry_frame (s : State) : PortFrame s (takeEntry s) := by
  rw [takeEntry_touches]
  exact ⟨rfl, rfl, rfl, rfl, rfl, rfl, rfl, rfl, rfl, rfl, rfl, rfl, rfl, rfl⟩

end Sys2Proof.Machine
end

section
/-! PROOFS. Every event keeps the result buffer (R158, R159), the entry queues (R156) and the heard table (section 2.3) in
order. -/

namespace Sys2Proof.Machine

/-! ### Reset -/

theorem bufferInv_reset : BufferInv State.reset.buffer :=
  ⟨rfl, by decide, by decide, by decide, by decide, rfl⟩

theorem captureInv_reset : CaptureInv State.reset.capture := by
  refine ⟨fun k => ?_, by decide, by decide⟩
  show QueueInv ((Quad.same EntryQueue.empty).get k)
  rw [Quad.get_same]
  exact ⟨by decide, by decide⟩

theorem heardInv_reset : HeardInv State.reset.heard :=
  ⟨List.length_replicate, fun e he => by rw [List.eq_of_mem_replicate he]; exact rfl⟩

/-! ### The result buffer -/

/-- The buffer after a RELEASE of half `h` in lockout: the half is OPEN and lockout has ended (R159, R164). -/
def reopened (h : Nat) (b : Buffer) : Buffer :=
  let x := { setHalf b h .opened with writePos := 0, lockout := false }
  { x with ready := readyLevel x }

/-- The buffer after a RELEASE of half `h` outside lockout: the half is FREE (R164). -/
def freed (h : Nat) (b : Buffer) : Buffer :=
  let x := setHalf b h .free
  { x with ready := readyLevel x }

theorem doRelease_lockout {h : Word} {s : State} (hh : h.toNat ≤ 1) (hf : halfState s.buffer h.toNat = .full)
    (hl : s.buffer.lockout = true) :
    doRelease h s = answerWith [answerOk] (writeGap (s.setBuffer (reopened h.toNat s.buffer))).1 := by
  unfold doRelease
  rw [if_pos ⟨hh, hf⟩, if_pos hl]
  rfl

theorem doRelease_free {h : Word} {s : State} (hh : h.toNat ≤ 1) (hf : halfState s.buffer h.toNat = .full)
    (hl : s.buffer.lockout = false) :
    doRelease h s = answerWith [answerOk] (s.setBuffer (freed h.toNat s.buffer)) := by
  unfold doRelease
  rw [if_pos ⟨hh, hf⟩, if_neg (by simp [hl])]
  rfl

theorem doRelease_refused {h : Word} {s : State} (hn : ¬ (h.toNat ≤ 1 ∧ halfState s.buffer h.toNat = .full)) :
    doRelease h s = answerWith [answerRefused] s :=
  if_neg hn

/-- In lockout no half is OPEN, so the released one is the only OPEN half after it. -/
theorem reopened_inv {h : Nat} {b : Buffer} (hb : BufferInv b) (hl : b.lockout = true) : BufferInv (reopened h b) := by
  obtain ⟨hwf, -, hlock, -, -, -⟩ := hb
  obtain ⟨h0, h1⟩ := hlock.1 hl
  unfold reopened setHalf
  split <;> simp [BufferInv, readyLevel, hwf, h0, h1]

/-- A FULL half that becomes FREE leaves the OPEN half and lockout as they are. -/
theorem freed_inv {h : Nat} {b : Buffer} (hb : BufferInv b) (hf : halfState b h = .full) (hl : b.lockout = false) :
    BufferInv (freed h b) := by
  obtain ⟨hwf, hone, hlock, hpos, -, -⟩ := hb
  unfold freed setHalf
  unfold halfState at hf
  split at hf <;> simp_all [BufferInv, readyLevel]

theorem doFlush_bufferInv {s : State} (hb : BufferInv s.buffer) : BufferInv (doFlush s).buffer := by
  unfold doFlush
  split
  · exact hb
  · next h ho =>
    split
    · exact hb
    · exact closeHalf_inv hb ho

theorem PortMove.bufferInv {s t : State} (h : PortMove s t) (hb : BufferInv s.buffer) : BufferInv t.buffer := by
  cases h with
  | port p => exact hb
  | release h =>
    by_cases hh : h.toNat ≤ 1 ∧ halfState s.buffer h.toNat = .full
    · cases hl : s.buffer.lockout
      · rw [doRelease_free hh.1 hh.2 hl]; exact freed_inv hb hh.2 hl
      · rw [doRelease_lockout hh.1 hh.2 hl]; exact writeGap_inv _ (reopened_inv hb hl)
    · rw [doRelease_refused hh]; exact hb
  | flush => exact doFlush_bufferInv hb

theorem readHeader_touches (header : List Byte) (s : State) :
    readHeader header s = s.setLoader (readHeader header s).loader := by
  unfold readHeader; split
  · split <;> rfl
  · rfl

/-- The last profile byte touches the loader, the channels, the round timer, the lock unit and the frame counter alone. -/
theorem readComplete_touches (rest : List Byte) (s : State) :
    readComplete rest s =
      ((((s.setLoader (readComplete rest s).loader).setChannels (readComplete rest s).channels).setTimer
        (readComplete rest s).timer).setLock (readComplete rest s).lock).setFramePos (readComplete rest s).framePos := by
  unfold readComplete; dsimp only; split
  · split <;> rfl
  · rfl

theorem Event.bufferInv {s t : State} (h : Event s t) (hb : BufferInv s.buffer) : BufferInv t.buffer := by
  cases h with
  | idle => exact hb
  | reset => exact bufferInv_reset
  | header header => rw [readHeader_touches]; exact hb
  | image rest => rw [readComplete_touches]; exact hb
  | period inp => rw [periodState_buffer]; exact hb
  | link h =>
    obtain ⟨-, -, -, -, -, -, -, hbuf, -⟩ := h.frame
    rw [hbuf]; exact hb
  | console c f arr act h =>
    obtain ⟨-, -, -, -, -, -, -, -, -, -, -, -, -, hbuf, -⟩ := takeConsole_keeps h c arr s
    rw [hbuf]; exact hb
  | writer => exact takeEntry_inv s hb
  | words writing ws => exact portWords_keeps (P := fun s => BufferInv s.buffer) (fun _ _ h => h.bufferInv) writing ws hb
  | move h => exact h.bufferInv hb

/-! ### The entry queues -/

theorem CaptureInv.queueOf {c : Capture} (h : CaptureInv c) (n : QueueName) : QueueInv (queueOf c n) := by
  cases n with
  | channel k => exact h.1 k
  | station => exact h.2

theorem CaptureInv.setQueue {c : Capture} (h : CaptureInv c) (n : QueueName) {q : EntryQueue} (hq : QueueInv q) :
    CaptureInv (setQueue c n q) := by
  cases n with
  | channel k =>
    refine ⟨fun j => ?_, h.2⟩
    show QueueInv ((c.channels.set k q).get j)
    by_cases hj : j = k
    · rw [hj, Quad.get_set_self]; exact hq
    · rw [Quad.get_set_ne _ _ _ _ hj]; exact h.1 j
  | station => exact ⟨h.1, hq⟩

theorem CaptureInv.countSkip {c : Capture} (h : CaptureInv c) (n : QueueName) : CaptureInv (countSkip n c) :=
  h.setQueue n ⟨(h.queueOf n).1, satInc_le _ _⟩

theorem CaptureInv.popQueue {c : Capture} (h : CaptureInv c) (n : QueueName) : CaptureInv (popQueue n c) :=
  h.setQueue n ⟨by
    have hlen := (h.queueOf n).1
    show (Machine.queueOf c n).entries.tail.length ≤ _
    rw [List.length_tail]; omega, (h.queueOf n).2⟩

theorem CaptureInv.clearSkips {c : Capture} (h : CaptureInv c) : CaptureInv (clearSkips c) := by
  refine ⟨fun k => ?_, h.2.1, Nat.zero_le _⟩
  show QueueInv ((c.channels.map fun q => { q with skips := 0 }).get k)
  rw [Quad.get_map]
  exact ⟨(h.1 k).1, Nat.zero_le _⟩

theorem writeGap_captureInv {s : State} (h : CaptureInv s.capture) : CaptureInv (writeGap s).1.capture := by
  unfold writeGap; dsimp only; split
  · exact h.clearSkips
  · exact h

theorem writeEntry_captureInv (n : QueueName) (e : Entry) {s : State} (h : CaptureInv s.capture) :
    CaptureInv (writeEntry n e s).capture := by
  unfold writeEntry; dsimp only; split
  · exact h
  · exact h.countSkip n

theorem writeTaken_captureInv (n : QueueName) (e : Entry) {s : State} (h : CaptureInv s.capture) :
    CaptureInv (writeTaken n e s).capture := by
  unfold writeTaken
  split
  · exact h.countSkip n
  · split
    · exact writeEntry_captureInv n e h
    · dsimp only
      split
      · exact writeEntry_captureInv n e (writeGap_captureInv h)
      · exact (writeGap_captureInv h).countSkip n

theorem takeEntry_captureInv {s : State} (h : CaptureInv s.capture) : CaptureInv (takeEntry s).capture := by
  unfold takeEntry
  split
  · exact h
  · split
    · exact h
    · next n e _ => exact writeTaken_captureInv n e (h.popQueue n)

theorem PortMove.captureInv {s t : State} (h : PortMove s t) (hc : CaptureInv s.capture) : CaptureInv t.capture := by
  cases h with
  | port p => exact hc
  | release h =>
    by_cases hh : h.toNat ≤ 1 ∧ halfState s.buffer h.toNat = .full
    · cases hl : s.buffer.lockout
      · rw [doRelease_free hh.1 hh.2 hl]; exact hc
      · rw [doRelease_lockout hh.1 hh.2 hl]; exact writeGap_captureInv (s := s.setBuffer _) hc
    · rw [doRelease_refused hh]; exact hc
  | flush =>
    unfold doFlush
    split
    · exact hc
    · split <;> exact hc

theorem settleReports_captureInv {s : State} (r : Reports) (h : CaptureInv s.capture) :
    CaptureInv (settleReports s r).capture := offerStation_inv _ _ h

theorem settleRound_captureInv {s : State} (r : Reports) (h : CaptureInv s.capture) :
    CaptureInv (settleRound s r).capture := by
  unfold settleRound; dsimp only
  split <;> exact offerStation_inv _ _ h

theorem LinkEvent.captureInv {s t : State} (h : LinkEvent s t) (hc : CaptureInv s.capture) : CaptureInv t.capture := by
  cases h
  case rollover =>
    by_cases hr : Ready s
    · rw [rollover_of_ready hr, sendMark_capture]; exact settleRound_captureInv _ (s := turned s) hc
    · rw [rollover_of_not_ready hr]; exact hc
  case mark f arr =>
    unfold receiveMark; split
    · dsimp only
      split
      · exact hc
      · split
        · exact settleRound_captureInv _ hc
        · exact settleReports_captureInv _ hc
    · exact hc
  case window =>
    unfold passWindow; split
    · exact settleReports_captureInv _ hc
    · exact hc
  case markReadback bytes =>
    unfold readMark; split
    · exact settleReports_captureInv _ hc
    · exact hc
  case latch => unfold latchSlot; split <;> exact hc
  case share => rw [sendShare_touches]; exact hc
  case walkStart => unfold startWalk; split <;> exact hc
  case walkCompletion => unfold completeWalk; split <;> exact hc
  case shareFrame f arr =>
    unfold receiveShare; split
    · dsimp only
      split
      · unfold acceptShare; dsimp only
        split
        · exact offerStation_inv _ _ hc
        · exact hc
      · exact hc
    · exact hc
  case shareReadback bytes =>
    unfold readShare; split
    · dsimp only
      split
      · exact hc
      · split
        · exact hc
        · exact settleReports_captureInv _ hc
    · exact hc

theorem IsAction.captureInv {f : ConsoleFrame} {act : State → State × Result} (h : IsAction f act) {s : State}
    (hc : CaptureInv s.capture) : CaptureInv (act s).1.capture := by
  cases h with
  | channels judge h => dsimp only; rw [onChannels_touches]; exact hc
  | hold flag =>
    unfold actHold; split
    · exact hc
    · split
      · exact hc
      · exact offerStation_inv _ _ hc
  | none => exact hc

theorem Event.captureInv {s t : State} (h : Event s t) (hc : CaptureInv s.capture) : CaptureInv t.capture := by
  cases h with
  | idle => exact hc
  | reset => exact captureInv_reset
  | header header => rw [readHeader_touches]; exact hc
  | image rest => rw [readComplete_touches]; exact hc
  | period inp => exact periodState_captureInv s inp hc
  | link h => exact h.captureInv hc
  | console c f arr act h =>
    unfold takeConsole; split
    · dsimp only
      split
      · exact h.captureInv hc
      · exact hc
    · exact hc
  | writer => exact takeEntry_captureInv hc
  | words writing ws => exact portWords_keeps (P := fun s => CaptureInv s.capture) (fun _ _ h => h.captureInv) writing ws hc
  | move h => exact h.captureInv hc

/-! ### The heard table -/

/-- A change of every entry that leaves its carry count fitting leaves the table in order. -/
theorem HeardInv.mapEntries {h : HeardTable} (hh : HeardInv h) {g : HeardEntry → HeardEntry}
    (hg : ∀ e ∈ h.entries, CarryFits e → CarryFits (g e)) {h' : HeardTable} (he : h'.entries = h.entries.map g) :
    HeardInv h' := by
  obtain ⟨hlen, hfit⟩ := hh
  refine ⟨by rw [he, List.length_map, hlen], fun e hmem => ?_⟩
  rw [he] at hmem
  obtain ⟨x, hx, rfl⟩ := List.mem_map.1 hmem
  exact hg x hx (hfit x hx)

theorem HeardInv.clearRound {h : HeardTable} (hh : HeardInv h) : HeardInv (clearRound h) :=
  hh.mapEntries (g := fun e => { e with heard := false }) (fun _ _ hx => hx) rfl

/-- Classification leaves each entry with the carry count of its new status (R31). -/
theorem classify_fits (e : HeardEntry) : CarryFits (classify e) := by
  unfold classify
  split
  · exact rfl
  · split
    · exact Or.inl rfl
    · next hs =>
      split
      · simp [CarryFits, hs]
      · exact rfl
    · next hs => simp [CarryFits, hs]

theorem HeardInv.classifyAll {h : HeardTable} (hh : HeardInv h) (round : Byte) : HeardInv (classifyAll h round) :=
  hh.mapEntries (g := classify) (fun e _ _ => classify_fits e) rfl

theorem HeardInv.heardEntry {h : HeardTable} (hh : HeardInv h) (n : Nat) : CarryFits (heardEntry h n) := by
  unfold Machine.heardEntry
  cases hn : h.entries[n - 1]? with
  | none => exact rfl
  | some e => exact hh.2 e (List.mem_of_getElem? hn)

theorem HeardInv.heardTake {h : HeardTable} (hh : HeardInv h) (n : Nat) (d : Quad Demand) : HeardInv (heardTake h n d) := by
  refine ⟨by rw [← hh.1]; exact List.length_set, fun e he => ?_⟩
  obtain he | rfl := List.mem_or_eq_of_mem_set he
  · exact hh.2 e he
  · exact hh.heardEntry n

theorem acceptShare_heardInv (f : ShareFrame) {s : State} (hh : HeardInv s.heard) : HeardInv (acceptShare f s).heard := by
  unfold acceptShare; dsimp only
  split <;> exact hh.heardTake f.station.toNat (shareDemands f)

theorem LinkEvent.heardInv {s t : State} (h : LinkEvent s t) (hh : HeardInv s.heard) : HeardInv t.heard := by
  cases h
  case rollover =>
    by_cases hr : Ready s
    · rw [rollover_of_ready hr, sendMark_heard, settleRound_heard]; exact hh.clearRound
    · rw [rollover_of_not_ready hr]; exact hh
  case mark f arr =>
    unfold receiveMark; split
    · dsimp only
      split
      · exact hh
      · split
        · rw [settleRound_heard]; exact hh.clearRound
        · exact hh
    · exact hh
  case window => unfold passWindow; split <;> exact hh
  case markReadback bytes => unfold readMark; split <;> exact hh
  case latch => unfold latchSlot; split <;> exact hh
  case share => rw [sendShare_touches]; exact hh
  case walkStart =>
    unfold startWalk; split
    · exact hh.classifyAll _
    · exact hh
  case walkCompletion => unfold completeWalk; split <;> exact hh
  case shareFrame f arr =>
    unfold receiveShare; split
    · dsimp only
      split
      · exact acceptShare_heardInv f (s := advanceTo s arr.now) hh
      · exact hh
    · exact hh
  case shareReadback bytes =>
    unfold readShare; split
    · dsimp only
      split
      · exact hh
      · split
        · exact hh.heardTake _ _
        · exact hh
    · exact hh

theorem Event.heardInv {s t : State} (h : Event s t) (hh : HeardInv s.heard) : HeardInv t.heard := by
  cases h with
  | idle => exact hh
  | reset => exact heardInv_reset
  | header header => rw [readHeader_touches]; exact hh
  | image rest => rw [readComplete_touches]; exact hh
  | period inp => rw [periodState_heard]; exact hh
  | link h => exact h.heardInv hh
  | console c f arr act h =>
    obtain ⟨-, -, -, -, -, -, -, hheard, -⟩ := takeConsole_keeps h c arr s
    rw [hheard]; exact hh
  | writer => rw [takeEntry_touches]; exact hh
  | words writing ws =>
    obtain ⟨-, -, -, -, -, -, -, hheard, -⟩ := portWords_frame writing ws s
    rw [hheard]; exact hh
  | move h =>
    rw [h.touches]; exact hh

/-- Settles O56: each of the three invariants is kept by every event. -/
theorem buffersKeptByEveryStep : Obligations.BuffersKeptByEveryStep := by
  unfold Obligations.BuffersKeptByEveryStep
  intro s t h
  refine ⟨fun hb => ?buffer, fun hc => ?queues, fun hh => ?heard⟩
  case buffer => exact step_keeps (P := fun s => BufferInv s.buffer) (fun _ _ h => h) (fun _ _ he => he.bufferInv) h hb
  case queues => exact step_keeps (P := fun s => CaptureInv s.capture) (fun _ _ h => h) (fun _ _ he => he.captureInv) h hc
  case heard => exact step_keeps (P := fun s => HeardInv s.heard) (fun _ _ h => h) (fun _ _ he => he.heardInv) h hh

end Sys2Proof.Machine
end

section
/-! PROOFS. A step of the queue, and what RESET answers. -/

namespace Sys2Proof.Machine

/-- Settles O1: the front of the queue decides which equation of a step applies. -/
theorem stepRunsFrontCommand : Obligations.StepRunsFrontCommand := by
  unfold Obligations.StepRunsFrontCommand
  refine ⟨fun c rest s => rfl, fun s hempty => ?_⟩
  unfold step
  rw [hempty]

/-- Every channel after RESET. -/
theorem resetState_channel (s : State) (k : Fin 4) : (resetState s).channels.get k = Channel.reset := Quad.get_same _ k

/-- Every channel queue after RESET. -/
theorem resetState_queue (s : State) (k : Fin 4) : (resetState s).capture.channels.get k = EntryQueue.empty :=
  Quad.get_same _ k

/-- Settles O2: the items stand in the reset state, the four channels and their queues alike. -/
theorem resetReturnsEveryBlock : Obligations.ResetReturnsEveryBlock := by
  unfold Obligations.ResetReturnsEveryBlock
  intro s
  refine ⟨resetState s, rfl, rfl, rfl, rfl, rfl, ?programs, rfl, rfl, rfl, rfl, rfl, rfl, rfl, rfl, rfl, rfl, rfl, rfl, rfl, rfl,
    rfl, rfl, rfl, rfl, rfl, rfl, rfl, ?channels, rfl, rfl, rfl, rfl, ?record, ?queues, rfl, rfl, rfl, rfl, rfl, rfl, rfl⟩
  case programs =>
    intro p hp
    rw [List.eq_of_mem_replicate (show p ∈ List.replicate 8 Program.absent from hp)]
    rfl
  case channels =>
    intro k
    rw [resetState_channel]
    exact ⟨rfl, rfl, rfl, rfl, rfl, rfl, rfl, rfl, rfl, rfl, rfl, rfl, rfl, rfl, rfl, rfl, rfl, rfl, rfl, rfl, rfl, rfl, rfl,
      rfl⟩
  case record => exact (by decide : recordWord ⟨0, .none, 0, .accepted⟩ = 0)
  case queues => exact resetState_queue s

end Sys2Proof.Machine
end

section
/-! PROOFS. The link invariant: the lock unit's actions keep its bounds, membership control leaves an EXCLUDED station in ACQUIRE, and
the settling of an event cuts off what is no longer permitted (R3, R5, R7, R22, R66, R68). -/

namespace Sys2Proof.Machine

/-! ### The lock unit -/

/-- What holds of the lock unit alone: the pacer flag only in LOCKED, and the counts in their ranges. -/
def LockFits (l : Lock) : Prop :=
  (l.pacer = true → l.state = .locked) ∧ l.lockCount ≤ Config.lockLimit ∧ l.missed ≤ Config.missedLimit ∧
  l.claimFails < Config.claimLimit

theorem claimLimit_pos : 0 < Config.claimLimit := by decide

theorem one_le_lockLimit : 1 ≤ Config.lockLimit := by decide

theorem enterSearch_fits (n : Nat) (l : Lock) : LockFits (enterSearch n l) :=
  ⟨nofun, Nat.zero_le _, Nat.zero_le _, claimLimit_pos⟩

theorem beginAcquire_fits (l : Lock) : LockFits (beginAcquire l) :=
  ⟨nofun, one_le_lockLimit, Nat.zero_le _, claimLimit_pos⟩

theorem LockFits.backoffDown {l : Lock} (h : LockFits l) : LockFits (backoffDown l) := h

theorem LockFits.lockExcluded {l : Lock} (h : LockFits l) : LockFits (lockExcluded l) := by
  unfold Machine.lockExcluded; split
  · exact ⟨nofun, Nat.le_refl _, Nat.zero_le _, claimLimit_pos⟩
  · exact h

/-- A pacer that is not LOCKED does not occur, so outside LOCKED the pacer flag is clear. -/
theorem LockFits.pacer_eq_false {l : Lock} (h : LockFits l) (hs : l.state ≠ .locked) : l.pacer = false := by
  cases hp : l.pacer
  · rfl
  · exact absurd (h.1 hp) hs

theorem lockRollover_fits (n : Nat) (map : BitVec 48) {l : Lock} (h : LockFits l) : LockFits (lockRollover n map l).lock := by
  have ⟨_, hcount, hmissed, _⟩ := h
  unfold lockRollover; dsimp only
  split
  · next hs =>
    split
    · exact ⟨fun _ => rfl, hcount, Nat.zero_le _, claimLimit_pos⟩
    · exact h.backoffDown
  · exact h.backoffDown
  · next hs =>
    split
    · exact ⟨fun _ => hs, hcount, hmissed, claimLimit_pos⟩
    · exact h.backoffDown

theorem acquireMark_fits {l : Lock} (h : LockFits l) (hs : l.state = .acquire) (place : MarkPlace) (mayLock : Bool)
    (mismatch : Option Byte) : LockFits (acquireMark l place mayLock mismatch).lock := by
  have hp : l.pacer = false := h.pacer_eq_false (by rw [hs]; decide)
  have ⟨_, _, _, hfails⟩ := h
  have hcount : satInc l.lockCount Config.lockLimit ≤ Config.lockLimit := satInc_le _ _
  unfold acquireMark
  split
  · exact ⟨by simp [hp], one_le_lockLimit, Nat.zero_le _, hfails⟩
  all_goals
    dsimp only
    split
    · exact ⟨fun _ => rfl, hcount, Nat.zero_le _, hfails⟩
    · exact ⟨by simp [hp], hcount, Nat.zero_le _, hfails⟩

/-- A mark that is followed leaves the lock unit in bounds. -/
theorem lockMark_fits {n : Nat} {digest : Word} {excluded : Bool} {l : Lock} {f : MarkFrame} {place : MarkPlace} (h : LockFits l)
    {out : LockOut} {starts : Bool} (hf : lockMark n digest excluded l f place = .followed out starts) : LockFits out.lock := by
  have ⟨hp, hcount, _, hfails⟩ := h
  unfold lockMark at hf; dsimp only at hf
  split at hf
  · cases hf; exact beginAcquire_fits l
  · next hs => cases hf; exact acquireMark_fits h hs _ _ _
  · split at hf
    · split at hf
      · cases hf; exact beginAcquire_fits l
      · cases hf
    · split at hf
      · cases hf; exact beginAcquire_fits l
      · cases hf; exact ⟨hp, hcount, Nat.zero_le _, hfails⟩

/-- No mark leads to SEARCH. -/
theorem lockMark_not_search {n : Nat} {digest : Word} {excluded : Bool} {l : Lock} {f : MarkFrame} {place : MarkPlace}
    {out : LockOut} {starts : Bool} (hf : lockMark n digest excluded l f place = .followed out starts) :
    out.lock.state ≠ .search := by
  unfold lockMark at hf; dsimp only at hf
  split at hf
  · cases hf; simp [beginAcquire]
  · next hs =>
    cases hf
    unfold acquireMark
    split
    · simp [hs]
    all_goals dsimp only; split <;> simp [hs]
  · next hs =>
    split at hf
    · split at hf
      · cases hf; simp [beginAcquire]
      · cases hf
    · split at hf
      · cases hf; simp [beginAcquire]
      · cases hf; simp [hs]

/-- While membership is EXCLUDED a mark leaves ACQUIRE for no other state (R22). -/
theorem lockMark_excluded {n : Nat} {digest : Word} {l : Lock} {f : MarkFrame} {place : MarkPlace}
    {out : LockOut} {starts : Bool} (hs : l.state = .acquire) (hf : lockMark n digest true l f place = .followed out starts) :
    out.lock.state = .acquire := by
  unfold lockMark acquireMark at hf
  rw [hs] at hf
  cases place <;> cases hf <;> simp

theorem lockWindow_fits (n : Nat) (excluded : Bool) {l : Lock} (h : LockFits l) : LockFits (lockWindow n excluded l).lock := by
  have hmissed : satInc l.missed Config.missedLimit ≤ Config.missedLimit := satInc_le _ _
  have ⟨hp, hcount, _, hfails⟩ := h
  unfold lockWindow; dsimp only
  split
  · exact h
  · split
    · exact enterSearch_fits n l
    · exact ⟨hp, Nat.zero_le _, hmissed, hfails⟩
  · split
    · exact enterSearch_fits n l
    · exact ⟨hp, hcount, hmissed, hfails⟩

/-- While membership is EXCLUDED a passed window leaves ACQUIRE for no other state (R22). -/
theorem lockWindow_excluded (n : Nat) {l : Lock} (hs : l.state = .acquire) :
    (lockWindow n true l).lock.state = .acquire := by
  unfold lockWindow; rw [hs]; dsimp only
  rw [if_neg (by simp)]

theorem lockReadback_fits (n : Nat) (detail ok : Bool) {l : Lock} (h : LockFits l) :
    LockFits (lockReadback n detail ok l).lock := by
  have ⟨hp, hcount, hmissed, hfails⟩ := h
  unfold lockReadback
  split
  · split
    · exact ⟨hp, hcount, Nat.zero_le _, claimLimit_pos⟩
    · dsimp only
      split
      · exact enterSearch_fits n _
      · next hcoast =>
        have hm : l.missed + 1 ≤ Config.missedLimit := by
          rw [decide_eq_true_eq] at hcoast; exact Nat.le_of_not_ge hcoast
        split
        · exact ⟨nofun, hcount, hm, claimLimit_pos⟩
        · next hclaim =>
          exact ⟨hp, hcount, hm, by rw [decide_eq_true_eq] at hclaim; exact Nat.lt_of_not_le hclaim⟩
  · exact h

/-! ### Membership control -/

section
variable {m : Membership} {l : LockState} {r : Reports} {round : Option Bool} {first : Bool}

/-- EXCLUDED is left by nothing but a reset (R68). -/
theorem memberReact_excluded (hm : m.state = .excluded) : memberReact m l r round first = .keep m := by
  unfold memberReact; rw [hm]

/-- A hall mismatch excludes the station from every other state (R65). -/
theorem memberReact_mismatch {n : Byte} (hm : m.state ≠ .excluded) (hr : r.mismatch = some n) :
    memberReact m l r round first = enterExcluded m (.excludedMismatch n) := by
  unfold memberReact; rw [hr]
  split
  · contradiction
  all_goals rfl

/-- A number conflict excludes the station from every other state (R64). -/
theorem memberReact_conflict (hm : m.state ≠ .excluded) (hr : r.mismatch = none) (hc : r.conflict = true) :
    memberReact m l r round first = enterExcluded m .excludedConflict := by
  unfold memberReact; rw [hr, hc]
  split
  · contradiction
  all_goals rfl

/-- With neither a mismatch nor a conflict an OUTSIDE station joins when the lock unit enters LOCKED (R58). -/
theorem memberReact_outside (hm : m.state = .outside) (hr : r.mismatch = none) (hc : r.conflict = false) :
    memberReact m l r round first = if r.entered then enterJoining m else .keep m := by
  unfold memberReact; rw [hm, hr, hc]; rfl

theorem memberReact_islanded (hm : m.state = .islanded) (hr : r.mismatch = none) (hc : r.conflict = false) :
    memberReact m l r round first = memberIslanded m l round := by
  unfold memberReact; rw [hm, hr, hc]; rfl

theorem memberReact_inDivision (hm : m.state = .joining ∨ m.state = .joined) (hr : r.mismatch = none)
    (hc : r.conflict = false) : memberReact m l r round first = memberInDivision m l r round first := by
  unfold memberReact
  rcases hm with hm | hm <;> (rw [hm, hr, hc]; rfl)

/-- An event in which membership control does not exclude the station leaves it out of EXCLUDED. -/
structure StaysIn (out : MemberOut) : Prop where
  notNow : out.excludedNow = false
  state : out.member.state ≠ .excluded

theorem memberIslanded_staysIn (hm : m.state ≠ .excluded) : StaysIn (memberIslanded m l round) := by
  unfold memberIslanded
  split
  · exact ⟨rfl, hm⟩
  · dsimp only
    split
    · exact ⟨rfl, nofun⟩
    · exact ⟨rfl, hm⟩

theorem memberInDivision_staysIn (hm : m.state ≠ .excluded) : StaysIn (memberInDivision m l r round first) := by
  unfold memberInDivision
  split
  · split <;> exact ⟨rfl, nofun⟩
  · split
    · exact ⟨rfl, nofun⟩
    · split
      · exact ⟨rfl, hm⟩
      · split
        · exact ⟨rfl, nofun⟩
        · exact ⟨rfl, hm⟩

/-- Without a mismatch or a conflict no station is excluded. -/
theorem memberReact_staysIn (hm : m.state ≠ .excluded) (hr : r.mismatch = none) (hc : r.conflict = false) :
    StaysIn (memberReact m l r round first) := by
  cases hs : m.state
  case excluded => contradiction
  case outside =>
    rw [memberReact_outside hs hr hc]
    split
    · exact ⟨rfl, nofun⟩
    · exact ⟨rfl, hm⟩
  case islanded => rw [memberReact_islanded hs hr hc]; exact memberIslanded_staysIn hm
  case joining => rw [memberReact_inDivision (.inl hs) hr hc]; exact memberInDivision_staysIn hm
  case joined => rw [memberReact_inDivision (.inr hs) hr hc]; exact memberInDivision_staysIn hm

/-- How a station comes to be EXCLUDED after an event: it was, or a mismatch or a conflict has excluded it now. -/
theorem memberReact_cases :
    (m.state = .excluded ∧ memberReact m l r round first = .keep m) ∨
    (m.state ≠ .excluded ∧ (r.mismatch.isSome = true ∨ r.conflict = true) ∧
      ∃ ev, memberReact m l r round first = enterExcluded m ev) ∨
    StaysIn (memberReact m l r round first) := by
  by_cases hm : m.state = .excluded
  · exact .inl ⟨hm, memberReact_excluded hm⟩
  · cases hr : r.mismatch with
    | some n => exact .inr (.inl ⟨hm, .inl rfl, _, memberReact_mismatch hm hr⟩)
    | none =>
      cases hc : r.conflict
      · exact .inr (.inr (memberReact_staysIn hm hr hc))
      · exact .inr (.inl ⟨hm, .inr rfl, _, memberReact_conflict hm hr hc⟩)

end

/-! ### What the settling of an event leaves -/

/-- What stands on the line after a cut is permitted (R5). -/
theorem cutLine_fits (lock : Lock) (m : MemberState) (line : Option LineFrame) : LineFits (cutLine lock m line) lock m := by
  cases line with
  | none => trivial
  | some fr => cases fr with
    | mark f c => simp [cutLine, LineFits]
    | share f c => simp [cutLine, LineFits]

/-- Neither a mismatch nor a conflict is reported. -/
def Quiet (r : Reports) : Prop := r.mismatch = none ∧ r.conflict = false

theorem Quiet.not_reported {r : Reports} (h : Quiet r) : ¬ (r.mismatch.isSome = true ∨ r.conflict = true) := by
  simp [h.1, h.2]

/-- What the lock unit and membership control have to satisfy before an event is settled. -/
structure Settles (s : State) (r : Reports) : Prop where
  ready : Ready s
  lock : LockFits s.lock
  excluded : s.member.state = .excluded → s.lock.state = .acquire
  reported : r.mismatch.isSome = true ∨ r.conflict = true → s.lock.state ≠ .search

/-- The lock unit and membership after an event, by membership control's reaction. -/
theorem Settles.after {s : State} {r : Reports} (h : Settles s r) (round : Option Bool) (first : Bool) :
    let out := memberReact s.member s.lock.state r round first
    let lock := if out.excludedNow then lockExcluded s.lock else s.lock
    LockFits lock ∧ (out.member.state = .excluded → lock.state = .acquire) := by
  dsimp only
  obtain ⟨hm, hout⟩ | ⟨-, hr, ev, hout⟩ | hout := memberReact_cases (m := s.member) (l := s.lock.state) (r := r)
    (round := round) (first := first)
  · rw [hout]
    exact ⟨h.lock, fun _ => h.excluded hm⟩
  · rw [hout]
    refine ⟨h.lock.lockExcluded, fun _ => ?_⟩
    have hs := h.reported hr
    show (lockExcluded s.lock).state = .acquire
    unfold lockExcluded
    cases hl : s.lock.state <;> simp_all
  · rw [hout.notNow]
    exact ⟨h.lock, fun hx => absurd hx hout.state⟩

/-- A state in READY meets the link invariant when its lock unit, membership and line do. -/
theorem linkInv_of_ready {s : State} (hready : Ready s) (hlock : LockFits s.lock)
    (hx : s.member.state = .excluded → s.lock.state = .acquire) (hline : LineFits s.link.line s.lock s.member.state) :
    LinkInv s :=
  ⟨fun h => absurd hready h, hlock.1, hx, hline, hlock.2⟩

theorem LinkInv.lockFits {s : State} (h : LinkInv s) : LockFits s.lock := by
  obtain ⟨-, hpacer, -, -, hcounts⟩ := h
  exact ⟨hpacer, hcounts⟩

theorem Settles.reports_linkInv {s : State} {r : Reports} (h : Settles s r) : LinkInv (settleReports s r) := by
  obtain ⟨hlock, hx⟩ := h.after none false
  exact linkInv_of_ready h.ready hlock hx (cutLine_fits _ _ _)

theorem settleRound_line (s : State) (r : Reports) :
    (settleRound s r).link.line = cutLine (settleRound s r).lock (settleRound s r).member.state s.link.line := by
  rw [settleRound_lock, settleRound_member]
  unfold settleRound; dsimp only; split <;> rfl

theorem Settles.round_linkInv {s : State} {r : Reports} (h : Settles s r) : LinkInv (settleRound s r) := by
  obtain ⟨hlock, hx⟩ := h.after (some s.heard.omission) (Config.freeIslandOmitted s.draws)
  refine linkInv_of_ready ?ready ?lock ?excluded ?line
  case ready => rw [Ready, settleRound_loader]; exact h.ready
  case lock => rw [settleRound_lock]; exact hlock
  case excluded => rw [settleRound_member, settleRound_lock]; exact hx
  case line => rw [settleRound_line]; exact cutLine_fits _ _ _

/-! ### The events -/

/-- Outside the fields that the link invariant reads, a state may change freely. -/
theorem LinkInv.congr {s t : State} (h : LinkInv s) (hloader : t.loader.startup = s.loader.startup) (hlock : t.lock = s.lock)
    (hline : t.link.line = s.link.line) (hmember : t.member.state = s.member.state) : LinkInv t := by
  unfold LinkInv at *
  rw [hloader, hlock, hline, hmember]; exact h

theorem sendMark_linkInv {s : State} (hready : Ready s) (h : LinkInv s) : LinkInv (sendMark s) := by
  unfold sendMark; split
  · next hp =>
    obtain ⟨-, -, hx, -, -⟩ := id h
    exact linkInv_of_ready hready h.lockFits hx (fun _ => hp)
  · exact h

theorem lockRollover_acquire {n : Nat} {map : BitVec 48} {l : Lock} (h : l.state = .acquire) :
    (lockRollover n map l).lock.state = .acquire := by
  unfold lockRollover
  simp [backoffDown, h]

/-- The rollover reports no mismatch and no conflict. -/
theorem lockRollover_quiet (n : Nat) (map : BitVec 48) (l : Lock) :
    Quiet (lockRollover n map l).reports := by
  unfold lockRollover; dsimp only
  split
  · split <;> exact ⟨rfl, rfl⟩
  · exact ⟨rfl, rfl⟩
  · split <;> exact ⟨rfl, rfl⟩

theorem rollover_linkInv {s : State} (h : LinkInv s) : LinkInv (rollover s) := by
  by_cases hr : Ready s
  · rw [rollover_of_ready hr]
    have hsettles : Settles (turned s) (rolloverLock s).reports := by
      obtain ⟨-, -, hx, -, -⟩ := id h
      exact ⟨hr, lockRollover_fits _ _ h.lockFits, fun hm => lockRollover_acquire (hx hm),
        fun hrep => absurd hrep (lockRollover_quiet _ _ _).not_reported⟩
    refine sendMark_linkInv ?_ hsettles.round_linkInv
    rw [Ready, settleRound_loader]; exact hr
  · rw [rollover_of_not_ready hr]; exact h

theorem receiveMark_linkInv (f : MarkFrame) (arr : Arrival) {s : State} (h : LinkInv s) : LinkInv (receiveMark f arr s) := by
  unfold receiveMark; split
  · next hready =>
    have hr : Ready s := (isReady_iff s).1 hready
    dsimp only
    split
    · exact h.congr rfl rfl rfl rfl
    · next out starts hf =>
      obtain ⟨-, -, hx, -, -⟩ := id h
      have hfits : LockFits out.lock := lockMark_fits h.lockFits hf
      have hsearch : out.lock.state ≠ .search := lockMark_not_search hf
      have hacquire : s.member.state = .excluded → out.lock.state = .acquire := fun hm => by
        unfold judgeMark at hf
        rw [decide_eq_true (show (advanceTo s arr.now).member.state = .excluded from hm)] at hf
        exact lockMark_excluded (hx hm) hf
      split
      · exact Settles.round_linkInv ⟨hr, hfits.backoffDown, hacquire, fun _ => hsearch⟩
      · exact Settles.reports_linkInv ⟨hr, hfits, hacquire, fun _ => hsearch⟩
  · exact h

theorem lockWindow_quiet (n : Nat) (excluded : Bool) (l : Lock) :
    Quiet (lockWindow n excluded l).reports := by
  unfold lockWindow; dsimp only
  split
  · exact ⟨rfl, rfl⟩
  all_goals split <;> exact ⟨rfl, rfl⟩

theorem passWindow_linkInv {s : State} (h : LinkInv s) : LinkInv (passWindow s) := by
  unfold passWindow; split
  · next hopen =>
    have hr : Ready s := (isReady_iff s).1 (by simp [windowOpen] at hopen; exact hopen.1.1)
    obtain ⟨-, -, hx, -, -⟩ := id h
    refine Settles.reports_linkInv ⟨hr, lockWindow_fits _ _ h.lockFits, fun hm => ?_,
      fun hrep => absurd hrep (lockWindow_quiet _ _ _).not_reported⟩
    have hm : s.member.state = .excluded := hm
    simpa [hm] using lockWindow_excluded s.loader.settings.station (hx hm)
  · exact h

/-- A frame on the line says that the part is in READY. -/
theorem LinkInv.ready_of_line {s : State} (h : LinkInv s) {x : LineFrame} (hline : s.link.line = some x) : Ready s := by
  obtain ⟨hrest, -⟩ := h
  by_contra hn
  obtain ⟨-, hnone, -⟩ := hrest hn
  rw [hnone] at hline; cases hline

theorem markOnLine_eq_some {s : State} {f : MarkFrame} {c : Bool} (h : markOnLine s = some (f, c)) :
    s.link.line = some (.mark f c) := by
  unfold markOnLine at h; split at h
  · next hl => cases h; exact hl
  · cases h

theorem shareOnLine_eq_some {s : State} {f : ShareFrame} {c : Bool} (h : shareOnLine s = some (f, c)) :
    s.link.line = some (.share f c) := by
  unfold shareOnLine at h; split at h
  · next hl => cases h; exact hl
  · cases h

theorem lockReadback_quiet (n : Nat) (detail ok : Bool) (l : Lock) :
    Quiet (lockReadback n detail ok l).reports := by
  unfold lockReadback
  split
  · split
    · exact ⟨rfl, rfl⟩
    · dsimp only; split <;> exact ⟨rfl, rfl⟩
  · exact ⟨rfl, rfl⟩

/-- The readback of the own mark acts on a pacer alone. -/
theorem lockReadback_of_not_pacer (n : Nat) (detail ok : Bool) {l : Lock} (h : l.pacer = false) :
    lockReadback n detail ok l = ⟨l, Reports.nothing⟩ := by
  unfold lockReadback; rw [h]; rfl

theorem readMark_linkInv (bytes : List Byte) {s : State} (h : LinkInv s) : LinkInv (readMark bytes s) := by
  unfold readMark; split
  · next f c hline =>
    have hr : Ready s := h.ready_of_line (markOnLine_eq_some hline)
    obtain ⟨-, -, hx, -, -⟩ := id h
    refine Settles.reports_linkInv ⟨hr, lockReadback_fits _ _ _ h.lockFits, fun hm => ?_,
      fun hrep => absurd hrep (lockReadback_quiet _ _ _ _).not_reported⟩
    have hs : s.lock.state = .acquire := hx hm
    rw [lockReadback_of_not_pacer _ _ _ (h.lockFits.pacer_eq_false (by simp [hs]))]
    exact hs
  · exact h

theorem sendShare_linkInv {s : State} (h : LinkInv s) : LinkInv (sendShare s) := by
  unfold sendShare; split
  · next hready =>
    have hr : Ready s := (isReady_iff s).1 (by simp at hready; exact hready.1)
    obtain ⟨-, -, hx, -, -⟩ := id h
    dsimp only
    split
    · next hp => split <;> exact linkInv_of_ready hr h.lockFits hx (fun _ => hp)
    · exact h.congr rfl rfl rfl rfl
  · exact h

theorem sharePermitted_locked {l : LockState} {m : MemberState} (h : sharePermitted l m = true) :
    l = .locked ∧ m ≠ .excluded := by
  simp only [sharePermitted, Bool.and_eq_true, Bool.or_eq_true, decide_eq_true_eq] at h
  obtain ⟨hl, hm⟩ := h
  exact ⟨hl, by rcases hm with rfl | rfl <;> simp⟩

theorem readShare_linkInv (bytes : List Byte) {s : State} (h : LinkInv s) : LinkInv (readShare bytes s) := by
  unfold readShare; split
  · next f c hline =>
    have hl := shareOnLine_eq_some hline
    have hr : Ready s := h.ready_of_line hl
    obtain ⟨-, -, hx, hfits, -⟩ := id h
    dsimp only
    split
    · exact linkInv_of_ready hr h.lockFits hx trivial
    · next hc =>
      have hlocked : s.lock.state = .locked := by
        rw [hl] at hfits
        exact (sharePermitted_locked (hfits (by simpa using hc))).1
      split
      · exact linkInv_of_ready hr h.lockFits hx trivial
      · exact Settles.reports_linkInv ⟨hr, h.lockFits, hx, fun _ => by
          show s.lock.state ≠ .search
          simp [hlocked]⟩
  · exact h

theorem walkStartMember_state (m : Membership) (own : HeardEntry) : (walkStartMember m own).state = m.state := by
  unfold walkStartMember; split <;> rfl

theorem LinkEvent.linkInv {s t : State} (h : LinkEvent s t) (hs : LinkInv s) : LinkInv t := by
  cases h
  case rollover => exact rollover_linkInv hs
  case mark f arr => exact receiveMark_linkInv f arr hs
  case window => exact passWindow_linkInv hs
  case markReadback bytes => exact readMark_linkInv bytes hs
  case latch => unfold latchSlot; split <;> exact hs.congr rfl rfl rfl rfl
  case share => exact sendShare_linkInv hs
  case walkStart =>
    unfold startWalk; split
    · exact hs.congr rfl rfl rfl (walkStartMember_state _ _)
    · exact hs
  case walkCompletion => unfold completeWalk; split <;> exact hs.congr rfl rfl rfl rfl
  case shareFrame f arr =>
    unfold receiveShare acceptShare; dsimp only
    split
    · split
      · split <;> exact hs.congr rfl rfl rfl rfl
      · exact hs.congr rfl rfl rfl rfl
    · exact hs
  case shareReadback bytes => exact readShare_linkInv bytes hs

theorem linkInv_reset : LinkInv State.reset :=
  ⟨fun _ => ⟨rfl, rfl, rfl⟩, nofun, nofun, trivial, by decide, by decide, by decide⟩

theorem enterReady_linkInv {s : State} (img : List Byte) (h : LinkInv s) (hn : ¬ Ready s) : LinkInv (enterReady s img) := by
  obtain ⟨hrest, -⟩ := h
  obtain ⟨-, hline, hmember⟩ := hrest hn
  refine linkInv_of_ready rfl (enterSearch_fits _ _) (fun hx => ?_) ?_
  · exact absurd (hmember.symm.trans hx) (by simp)
  · show LineFits s.link.line _ _
    rw [hline]; trivial

theorem enterProfileFault_linkInv {s : State} (img : List Byte) (h : LinkInv s) (hn : ¬ Ready s) :
    LinkInv (enterProfileFault s img) := by
  obtain ⟨hrest, hmore⟩ := h
  exact ⟨fun _ => hrest hn, hmore⟩

theorem Event.linkInv {s t : State} (h : Event s t) (hs : LinkInv s) : LinkInv t := by
  cases h with
  | idle => exact hs
  | reset => exact linkInv_reset
  | header header =>
    unfold readHeader; split
    · next hl =>
      split
      · exact hs.congr rfl rfl rfl rfl
      · exact enterProfileFault_linkInv _ hs (by simp [hl.1])
    · exact hs
  | image rest =>
    unfold readComplete; dsimp only; split
    · next hl =>
      split
      · exact enterReady_linkInv _ hs (by simp [hl.1])
      · exact enterProfileFault_linkInv _ hs (by simp [hl.1])
    · exact hs
  | period inp =>
    exact hs.congr (by rw [periodState_loader]) (by rw [periodState_lock]) (by rw [periodState_link])
      (by rw [periodState_member])
  | link h => exact h.linkInv hs
  | console c f arr act h =>
    obtain ⟨-, -, hloader, -, -, hlink, hlock, -, -, hmember, -⟩ := takeConsole_keeps h c arr s
    exact hs.congr (by rw [hloader]) hlock (by rw [hlink]) (by rw [hmember])
  | writer => rw [takeEntry_touches]; exact hs.congr rfl rfl rfl rfl
  | words writing ws =>
    obtain ⟨-, -, hloader, -, -, hlink, hlock, -, -, hmember, -⟩ := portWords_frame writing ws s
    exact hs.congr (by rw [hloader]) hlock (by rw [hlink]) (by rw [hmember])
  | move h => rw [h.touches]; exact hs.congr rfl rfl rfl rfl

/-- Settles O57: every event keeps the link invariant. -/
theorem linkKeptByEveryStep : Obligations.LinkKeptByEveryStep := by
  unfold Obligations.LinkKeptByEveryStep
  intro s t hs h
  exact step_keeps (fun _ _ h => h) (fun _ _ he => he.linkInv) h hs

end Sys2Proof.Machine
end

section
/-! PROOFS. One control period of a channel, stage by stage (R75): what each stage leaves alone, and one equation for each case of
stage 3. -/

namespace Sys2Proof.Machine

/-! ### The stages -/

/-- The channel as stage 3 finds it: measured, with the persistence counts of the period. -/
def measured (e : PeriodEnv) (ch : Channel) : Channel := countCauses e (measure e ch)

/-- The causes that stage 2 detects. -/
abbrev causesIn (e : PeriodEnv) (ch : Channel) : List Cause := detected e (measure e ch)

/-- The work after the decisions of stage 3, before the pulse output and the capture. -/
def decided (e : PeriodEnv) (ch : Channel) : Work := decideStage e (causesIn e ch) (Work.of (measured e ch))

/-- The work at the end of stage 3. -/
def worked (e : PeriodEnv) (ch : Channel) : Work := captureStage e (pulseOutput e (decided e ch))

theorem channelPeriod_ch (e : PeriodEnv) (ch : Channel) : (channelPeriod e ch).ch = outputStages e (worked e ch) := by
  simp only [channelPeriod, worked, decided, measured]

/-! ### What stages 4 and 5, the pulse output and the capture leave alone -/

theorem regulate_touches (e : RegulateEnv) (ch : Channel) :
    regulate e ch = { ch with setpoint := (regulate e ch).setpoint, regulator := (regulate e ch).regulator } := by
  unfold regulate; split <;> rfl

theorem driveOutputs_touches (ch : Channel) :
    driveOutputs ch = { ch with
      drive := (driveOutputs ch).drive, enabled := (driveOutputs ch).enabled,
      setpointWord := (driveOutputs ch).setpointWord } := by
  unfold driveOutputs; cases h : ch.state <;> rfl

/-- Stages 4 and 5 set the regulator, the outputs and the persistence counts. -/
theorem outputStages_touches (e : PeriodEnv) (w : Work) :
    outputStages e w = { w.ch with
      setpoint := (outputStages e w).setpoint, regulator := (outputStages e w).regulator,
      drive := (outputStages e w).drive, enabled := (outputStages e w).enabled,
      setpointWord := (outputStages e w).setpointWord, persistence := (outputStages e w).persistence } := by
  unfold outputStages disarm
  rw [driveOutputs_touches, regulate_touches]

theorem pulseTarget_touches (ch : Channel) : (pulseTarget ch).2 = { ch with live := (pulseTarget ch).2.live } := by
  unfold pulseTarget; split
  · split <;> rfl
  · split <;> rfl

theorem loadPairs_touches (ch : Channel) :
    loadPairs ch = { ch with live := (loadPairs ch).live, staged := (loadPairs ch).staged } := by
  unfold loadPairs; dsimp only
  split
  · split <;> rfl
  · split <;> rfl

/-- The pulse output sets the pulse pairs and the pulse target. -/
theorem pulseOutput_touches (e : PeriodEnv) (w : Work) :
    pulseOutput e w = { w with
      ch := { w.ch with live := (pulseOutput e w).ch.live, staged := (pulseOutput e w).ch.staged }
      pulse := (pulseOutput e w).pulse } := by
  unfold pulseOutput
  split
  · split
    · dsimp only
      rw [pulseTarget_touches]
      split
      · rw [loadPairs_touches]
      · rfl
    · rfl
  · rfl

/-- The capture sets the pacer and the SAMPLE entries. -/
theorem captureStage_touches (e : PeriodEnv) (w : Work) :
    captureStage e w = { w with
      ch := { w.ch with pacer := (captureStage e w).ch.pacer }, samples := (captureStage e w).samples } := by
  unfold captureStage; split <;> rfl

/-- What comes after the decisions of stage 3 sets the pulse pairs and the pulse target, the pacer and the SAMPLE entries. -/
theorem worked_touches (e : PeriodEnv) (ch : Channel) :
    worked e ch = { decided e ch with
      ch := { (decided e ch).ch with
        live := (worked e ch).ch.live, staged := (worked e ch).ch.staged, pacer := (worked e ch).ch.pacer }
      samples := (worked e ch).samples, pulse := (worked e ch).pulse } := by
  unfold worked
  rw [captureStage_touches, pulseOutput_touches]

/-! ### The channel after the period, field by field -/

section
variable (e : PeriodEnv) (ch : Channel)

/-- All but the pulse pairs, the pacer, the regulator, the outputs and the persistence counts is as stage 3 decided it. -/
theorem period_touches : (channelPeriod e ch).ch = { (decided e ch).ch with
    live := (worked e ch).ch.live, staged := (worked e ch).ch.staged, pacer := (worked e ch).ch.pacer
    setpoint := (channelPeriod e ch).ch.setpoint, regulator := (channelPeriod e ch).ch.regulator
    drive := (channelPeriod e ch).ch.drive, enabled := (channelPeriod e ch).ch.enabled
    setpointWord := (channelPeriod e ch).ch.setpointWord, persistence := (channelPeriod e ch).ch.persistence } := by
  rw [channelPeriod_ch, outputStages_touches, worked_touches]

@[simp] theorem period_state : (channelPeriod e ch).ch.state = (decided e ch).ch.state := by rw [period_touches]
@[simp] theorem period_runRequest : (channelPeriod e ch).ch.runRequest = (decided e ch).ch.runRequest := by
  rw [period_touches]
@[simp] theorem period_runProgram : (channelPeriod e ch).ch.runProgram = (decided e ch).ch.runProgram := by
  rw [period_touches]
@[simp] theorem period_stopRequest : (channelPeriod e ch).ch.stopRequest = (decided e ch).ch.stopRequest := by
  rw [period_touches]
@[simp] theorem period_endReason : (channelPeriod e ch).ch.endReason = (decided e ch).ch.endReason := by
  rw [period_touches]
@[simp] theorem period_feedback : (channelPeriod e ch).ch.feedback = (decided e ch).ch.feedback := by
  rw [period_touches]
@[simp] theorem period_fault : (channelPeriod e ch).ch.fault = (decided e ch).ch.fault := by rw [period_touches]
@[simp] theorem period_closeTimer : (channelPeriod e ch).ch.closeTimer = (decided e ch).ch.closeTimer := by
  rw [period_touches]
@[simp] theorem period_openTimer : (channelPeriod e ch).ch.openTimer = (decided e ch).ch.openTimer := by
  rw [period_touches]
@[simp] theorem period_lastClose : (channelPeriod e ch).ch.lastClose = (decided e ch).ch.lastClose := by
  rw [period_touches]
@[simp] theorem period_band : (channelPeriod e ch).ch.band = (decided e ch).ch.band := by rw [period_touches]
@[simp] theorem period_record : (channelPeriod e ch).ch.record = (decided e ch).ch.record := by rw [period_touches]
@[simp] theorem period_chargeIn : (channelPeriod e ch).ch.chargeIn = (decided e ch).ch.chargeIn := by
  rw [period_touches]
@[simp] theorem period_chargeOut : (channelPeriod e ch).ch.chargeOut = (decided e ch).ch.chargeOut := by
  rw [period_touches]
@[simp] theorem period_startMode : (channelPeriod e ch).ch.startMode = (decided e ch).ch.startMode := by
  rw [period_touches]
@[simp] theorem period_startProgram : (channelPeriod e ch).ch.startProgram = (decided e ch).ch.startProgram := by
  rw [period_touches]
@[simp] theorem period_vMeas : (channelPeriod e ch).ch.vMeas = (decided e ch).ch.vMeas := by rw [period_touches]
@[simp] theorem period_confirmed : (channelPeriod e ch).ch.confirmed = (decided e ch).ch.confirmed := by
  rw [period_touches]
@[simp] theorem period_sequencer : (channelPeriod e ch).ch.sequencer = (decided e ch).ch.sequencer := by
  rw [period_touches]
@[simp] theorem period_holdMode : (channelPeriod e ch).ch.holdMode = (decided e ch).ch.holdMode := by
  rw [period_touches]
@[simp] theorem period_live : (channelPeriod e ch).ch.live = (worked e ch).ch.live := by rw [period_touches]
@[simp] theorem period_staged : (channelPeriod e ch).ch.staged = (worked e ch).ch.staged := by rw [period_touches]
@[simp] theorem period_pacer : (channelPeriod e ch).ch.pacer = (worked e ch).ch.pacer := by rw [period_touches]

theorem worked_state : (worked e ch).ch.state = (decided e ch).ch.state := by rw [worked_touches]

/-- The outputs of a period by the state it reaches (R83). -/
@[simp] theorem period_enabled : (channelPeriod e ch).ch.enabled = regulates (decided e ch).ch.state := by
  obtain ⟨-, henabled, -⟩ := outputStages_outputs e (worked e ch)
  rw [channelPeriod_ch, henabled, worked_state]

@[simp] theorem period_drive :
    (channelPeriod e ch).ch.drive = (decide ((decided e ch).ch.state = .closing) || regulates (decided e ch).ch.state) := by
  obtain ⟨-, -, hdrive, -⟩ := outputStages_outputs e (worked e ch)
  rw [channelPeriod_ch, hdrive, worked_state]

/-- The setpoint is 0 outside RUNNING, HELD and STOPPING (R99). -/
theorem period_setpoint_rests (h : regulates (decided e ch).ch.state = false) : (channelPeriod e ch).ch.setpoint = 0 := by
  obtain ⟨-, -, -, -, hsetpoint⟩ := outputStages_outputs e (worked e ch)
  exact hsetpoint (by rw [worked_state]; exact h)

/-- The capture's entries: a SAMPLE in RUNNING and STOPPING, where no step was entered and the accumulator passes 1023. -/
def sampledIn (e : PeriodEnv) (w : Work) : List Entry :=
  if (w.ch.state = .running ∨ w.ch.state = .stopping) ∧ w.entered = false ∧ (pacerWork w.ch.pacer).2 = true then
    [.sample e.k e.tick (w.ch.sequencer.index.getD 255) (bandOf e.k w.ch).val e.inp.v e.inp.i e.inp.t]
  else []

end

/-- The pacer after the capture (R155). -/
theorem worked_pacer (e : PeriodEnv) (ch : Channel) : (worked e ch).ch.pacer =
    if ((decided e ch).ch.state = .running ∨ (decided e ch).ch.state = .stopping) ∧ (decided e ch).entered = false then
      (pacerWork (decided e ch).ch.pacer).1 else (decided e ch).ch.pacer := by
  unfold worked
  rw [pulseOutput_touches]
  unfold captureStage
  dsimp only
  split <;> rfl

/-! ### What the operations of stage 3 leave alone -/

/-- What stage 1 measured, the hold mode and the persistence counts stand after it. -/
structure Kept (a b : Channel) : Prop where
  feedback : b.feedback = a.feedback
  fault : b.fault = a.fault
  band : b.band = a.band
  vMeas : b.vMeas = a.vMeas
  holdMode : b.holdMode = a.holdMode
  persistence : b.persistence = a.persistence

/-- Beside that, the setpoint and the run totals stand. -/
structure KeptRun (a b : Channel) : Prop extends Kept a b where
  setpoint : b.setpoint = a.setpoint
  chargeIn : b.chargeIn = a.chargeIn
  chargeOut : b.chargeOut = a.chargeOut

theorem KeptRun.refl (a : Channel) : KeptRun a a := ⟨⟨rfl, rfl, rfl, rfl, rfl, rfl⟩, rfl, rfl, rfl⟩

theorem KeptRun.trans {a b c : Channel} (h : KeptRun a b) (h' : KeptRun b c) : KeptRun a c :=
  ⟨⟨h'.feedback.trans h.feedback, h'.fault.trans h.fault, h'.band.trans h.band, h'.vMeas.trans h.vMeas,
    h'.holdMode.trans h.holdMode, h'.persistence.trans h.persistence⟩,
    h'.setpoint.trans h.setpoint, h'.chargeIn.trans h.chargeIn, h'.chargeOut.trans h.chargeOut⟩

theorem keptRun_sequencer (a : Channel) (q : Sequencer) : KeptRun a { a with sequencer := q } :=
  ⟨⟨rfl, rfl, rfl, rfl, rfl, rfl⟩, rfl, rfl, rfl⟩

theorem keptRun_state (a : Channel) (st : ChannelState) : KeptRun a { a with state := st } :=
  ⟨⟨rfl, rfl, rfl, rfl, rfl, rfl⟩, rfl, rfl, rfl⟩

theorem endStep_touches (e : PeriodEnv) (r : StepEndReason) (w : Work) :
    endStep e r w = { w with
      ch := { w.ch with sequencer := { w.ch.sequencer with ended := (endStep e r w).ch.sequencer.ended } }
      ends := (endStep e r w).ends } := by
  unfold endStep; split
  · rfl
  · split <;> rfl

/-- A step that ends, or none, leaves no step current and not ended. -/
theorem endStep_ended (e : PeriodEnv) (r : StepEndReason) (w : Work) :
    w.ch.sequencer.index = none ∨ (endStep e r w).ch.sequencer.ended = true := by
  unfold endStep; split
  · next h => exact .inl h
  · split
    · next h => exact .inr h
    · exact .inr rfl

theorem recordAll_touches (e : PeriodEnv) (cs : List Cause) (w : Work) :
    cs.foldl (recordFault e) w = { w with
      ch := { w.ch with record := (cs.foldl (recordFault e) w).ch.record }
      faults := (cs.foldl (recordFault e) w).faults } := by
  induction cs generalizing w with
  | nil => rfl
  | cons c cs ih =>
    obtain ⟨r, fs, hr⟩ := recordFault_spec e w c
    rw [List.foldl_cons, ih, hr]

/-- Once a cause has been recorded there is a primary cause. -/
theorem recordAll_isSome (e : PeriodEnv) {cs : List Cause} {w : Work} (h : cs ≠ [] ∨ w.ch.record.isSome = true) :
    (cs.foldl (recordFault e) w).ch.record.isSome = true := by
  induction cs generalizing w with
  | nil => exact h.resolve_left (· rfl)
  | cons c cs ih =>
    obtain ⟨r, fs, hr⟩ := recordFault_spec e w c
    exact ih (.inr (by rw [hr]; rfl))

theorem stagePulse_touches (kind : StepKind) (ch : Channel) :
    stagePulse kind ch = { ch with live := (stagePulse kind ch).live, staged := (stagePulse kind ch).staged } := by
  unfold stagePulse; cases kind <;> rfl

theorem holdPairs_touches (kind : StepKind) (mode : HoldMode) (ch : Channel) :
    holdPairs kind mode ch = { ch with live := (holdPairs kind mode ch).live, staged := (holdPairs kind mode ch).staged } := by
  unfold holdPairs; cases kind <;> rfl

theorem enterHeld_touches (e : PeriodEnv) (ch : Channel) :
    enterHeld e ch = { ch with
      state := .held, sequencer := { ch.sequencer with nextRequest := false }
      live := (enterHeld e ch).live, staged := (enterHeld e ch).staged } := by
  unfold enterHeld; dsimp only; split
  · rw [holdPairs_touches]
  · rfl

theorem secureStop_kept (e : PeriodEnv) (r : EndReason) (w : Work) : KeptRun w.ch (secureStop e r w).ch := by
  unfold secureStop
  rw [endStep_touches]
  exact ⟨⟨rfl, rfl, rfl, rfl, rfl, rfl⟩, rfl, rfl, rfl⟩

theorem fastStop_kept (e : PeriodEnv) (r : EndReason) (sr : StepEndReason) (w : Work) : Kept w.ch (fastStop e r sr w).ch := by
  unfold fastStop enterOpening
  rw [endStep_touches]
  exact ⟨rfl, rfl, rfl, rfl, rfl, rfl⟩

theorem fastStop_totals (e : PeriodEnv) (r : EndReason) (sr : StepEndReason) (w : Work) :
    (fastStop e r sr w).ch.chargeIn = w.ch.chargeIn ∧ (fastStop e r sr w).ch.chargeOut = w.ch.chargeOut := by
  unfold fastStop enterOpening
  rw [endStep_touches]
  exact ⟨rfl, rfl⟩

theorem enterStep_kept (i : Nat) (s : Step) (stack : List LoopEntry) (cycles : Nat) (w : Work) :
    KeptRun w.ch (enterStep i s stack cycles w).ch := by
  unfold enterStep; dsimp only
  rw [stagePulse_touches]
  exact ⟨⟨rfl, rfl, rfl, rfl, rfl, rfl⟩, rfl, rfl, rfl⟩

theorem endStep_kept (e : PeriodEnv) (r : StepEndReason) (w : Work) : KeptRun w.ch (endStep e r w).ch := by
  rw [endStep_touches]
  exact ⟨⟨rfl, rfl, rfl, rfl, rfl, rfl⟩, rfl, rfl, rfl⟩

theorem enterHeld_kept (e : PeriodEnv) (ch : Channel) : KeptRun ch (enterHeld e ch) := by
  rw [enterHeld_touches]
  exact ⟨⟨rfl, rfl, rfl, rfl, rfl, rfl⟩, rfl, rfl, rfl⟩

theorem recordAll_kept (e : PeriodEnv) (cs : List Cause) (w : Work) : KeptRun w.ch (cs.foldl (recordFault e) w).ch := by
  rw [recordAll_touches]
  exact ⟨⟨rfl, rfl, rfl, rfl, rfl, rfl⟩, rfl, rfl, rfl⟩

/-- The work with the sequencer of its channel replaced. -/
def Work.withSequencer (w : Work) (q : Sequencer) : Work := { w with ch := { w.ch with sequencer := q } }

/-- The sequencer after a counted period that does not end the step: the counters counted, the persistence counts updated
(R120 to R122). -/
def countedSequencer (e : PeriodEnv) (ch : Channel) (s : Step) : Sequencer :=
  { ch.sequencer with counters := { countPeriod e ch.sequencer.counters with
      terms := termCounts e (countPeriod e ch.sequencer.counters) ch.regulator.limitedFlag s.terms
        ch.sequencer.counters.terms } }

/-- The sequencer with which a counted period hands the step to the operator: the request is taken (R127). -/
def operatorSequencer (e : PeriodEnv) (ch : Channel) : Sequencer :=
  { ch.sequencer with counters := countPeriod e ch.sequencer.counters, nextRequest := false }

section
variable {e : PeriodEnv} {w : Work} {i : Nat} {s : Step}

theorem sequence_operator (hi : w.ch.sequencer.index = some i) (hs : currentStep e.programs w.ch = some s)
    (hn : w.ch.sequencer.nextRequest = true) :
    sequence e w = finishStep e i .operator .next (w.withSequencer (operatorSequencer e w.ch)) := by
  unfold sequence; rw [hi, hs]; dsimp only; rw [if_pos hn]; rfl

/-- The first satisfied term of the step in a counted period, with its place and action. -/
def satisfiedIn (e : PeriodEnv) (ch : Channel) (s : Step) : Option (Nat × Action) :=
  firstSatisfied e (countPeriod e ch.sequencer.counters) 1 s.terms (countedSequencer e ch s).counters.terms

theorem sequence_term (hi : w.ch.sequencer.index = some i) (hs : currentStep e.programs w.ch = some s)
    (hn : w.ch.sequencer.nextRequest = false) {pos : Nat} {act : Action} (hf : satisfiedIn e w.ch s = some (pos, act)) :
    sequence e w = finishStep e i (termReason pos) act (w.withSequencer (countedSequencer e w.ch s)) := by
  unfold sequence; rw [hi, hs]; dsimp only; rw [if_neg (by simp [hn])]
  change firstSatisfied _ _ _ _ _ = _ at hf
  unfold countedSequencer at hf
  dsimp only [countPeriod] at hf ⊢
  rw [hf]; rfl

theorem sequence_goes_on (hi : w.ch.sequencer.index = some i) (hs : currentStep e.programs w.ch = some s)
    (hn : w.ch.sequencer.nextRequest = false) (hf : satisfiedIn e w.ch s = none) :
    sequence e w = w.withSequencer (countedSequencer e w.ch s) := by
  unfold sequence; rw [hi, hs]; dsimp only; rw [if_neg (by simp [hn])]
  change firstSatisfied _ _ _ _ _ = _ at hf
  unfold countedSequencer at hf
  dsimp only [countPeriod] at hf ⊢
  rw [hf]; rfl

theorem sequence_no_step (h : w.ch.sequencer.index = none ∨ currentStep e.programs w.ch = none) : sequence e w = w := by
  unfold sequence
  split
  · next hi hs => simp [hi, hs] at h
  · rfl

end

/-- What the sequencer can do in a counted period (R119): nothing without a step, else the step goes on, or it ends. -/
inductive Sequenced (e : PeriodEnv) (w : Work) : Work → Prop where
  | nothing (h : w.ch.sequencer.index = none ∨ currentStep e.programs w.ch = none) : Sequenced e w w
  | on (i : Nat) (s : Step) (hi : w.ch.sequencer.index = some i) (hs : currentStep e.programs w.ch = some s) :
    Sequenced e w (w.withSequencer (countedSequencer e w.ch s))
  | operator (i : Nat) (s : Step) (hi : w.ch.sequencer.index = some i) (hs : currentStep e.programs w.ch = some s) :
    Sequenced e w (finishStep e i .operator .next (w.withSequencer (operatorSequencer e w.ch)))
  | term (i : Nat) (s : Step) (pos : Nat) (act : Action) (hi : w.ch.sequencer.index = some i)
    (hs : currentStep e.programs w.ch = some s) :
    Sequenced e w (finishStep e i (termReason pos) act (w.withSequencer (countedSequencer e w.ch s)))

theorem sequence_cases (e : PeriodEnv) (w : Work) : Sequenced e w (sequence e w) := by
  cases hi : w.ch.sequencer.index with
  | none => rw [sequence_no_step (.inl hi)]; exact .nothing (.inl hi)
  | some i =>
    cases hs : currentStep e.programs w.ch with
    | none => rw [sequence_no_step (.inr hs)]; exact .nothing (.inr hs)
    | some s =>
      cases hn : w.ch.sequencer.nextRequest
      · cases hf : satisfiedIn e w.ch s with
        | none => rw [sequence_goes_on hi hs hn hf]; exact .on i s hi hs
        | some x => rw [sequence_term (pos := x.1) (act := x.2) hi hs hn hf]; exact .term i s _ _ hi hs
      · rw [sequence_operator hi hs hn]; exact .operator i s hi hs

theorem withSequencer_kept (w : Work) (q : Sequencer) : KeptRun w.ch (w.withSequencer q).ch := keptRun_sequencer w.ch q

theorem finishStep_kept (e : PeriodEnv) (i : Nat) (r : StepEndReason) (act : Action) (w : Work) :
    KeptRun w.ch (finishStep e i r act w).ch := by
  unfold finishStep; dsimp only
  have hc := keptRun_sequencer w.ch { w.ch.sequencer with
    cycles := (resolveAction (stepsOfChannel e w.ch) i act w.ch.sequencer).cycles }
  split
  · exact (hc.trans (secureStop_kept e .complete { w with ch := _ })).trans (keptRun_sequencer _ _)
  · split
    · exact (hc.trans (endStep_kept e r { w with ch := _ })).trans (enterStep_kept ..)
    · exact hc

theorem Sequenced.kept {e : PeriodEnv} {w w' : Work} (h : Sequenced e w w') : KeptRun w.ch w'.ch := by
  cases h with
  | nothing h => exact .refl _
  | on i s hi hs => exact withSequencer_kept _ _
  | operator i s hi hs => exact (withSequencer_kept _ _).trans (finishStep_kept _ _ _ _ _)
  | term i s pos act hi hs => exact (withSequencer_kept _ _).trans (finishStep_kept _ _ _ _ _)

theorem boundaryCount_touches (e : PeriodEnv) (ch : Channel) :
    boundaryCount e ch = { ch with sequencer := { ch.sequencer with counters := { ch.sequencer.counters with
      pulses := (boundaryCount e ch).sequencer.counters.pulses } } } := by
  unfold boundaryCount; split <;> rfl

theorem runWork_kept (e : PeriodEnv) (w : Work) : KeptRun w.ch (runWork e w).ch := by
  have hb : KeptRun w.ch (boundaryCount e w.ch) := by
    rw [boundaryCount_touches]
    exact ⟨⟨rfl, rfl, rfl, rfl, rfl, rfl⟩, rfl, rfl, rfl⟩
  exact hb.trans (sequence_cases e { w with ch := boundaryCount e w.ch }).kept

theorem failClosing_kept (e : PeriodEnv) (c : Cause) (w : Work) : KeptRun w.ch (failClosing e c w).ch := by
  obtain ⟨r, fs, hr⟩ := recordFault_spec e w c
  unfold failClosing
  rw [hr]
  exact ⟨⟨rfl, rfl, rfl, rfl, rfl, rfl⟩, rfl, rfl, rfl⟩

theorem startProgram_kept (e : PeriodEnv) (w : Work) : KeptRun w.ch (startProgram e w).ch := by
  unfold startProgram; dsimp only
  split
  · exact secureStop_kept ..
  · split
    · split
      · exact (enterStep_kept ..).trans (enterHeld_kept ..)
      · exact (enterStep_kept _ _ _ _ w).trans (keptRun_state _ _)
    · exact .refl _

/-- CLOSING at a closed feedback: the close time is recorded and the CHANNEL_START entry made (R81, R90). -/
def closedWork (e : PeriodEnv) (w : Work) : Work :=
  let ch := { w.ch with closeTimer := w.ch.closeTimer + 1, lastClose := w.ch.closeTimer + 1 }
  { w with ch := ch, runs := w.runs ++ [startEntry e ch] }

/-- CLOSING that waits: the close timer runs (R81). -/
def waitingWork (w : Work) : Work := { w with ch := { w.ch with closeTimer := w.ch.closeTimer + 1 } }

section
variable {e : PeriodEnv} {w : Work}

theorem closingWork_closed (hf : w.ch.feedback.level = true) :
    closingWork e w = match w.ch.stopRequest with
      | .secure r => secureStop e r (closedWork e w)
      | _ => startProgram e (closedWork e w) := by
  unfold closingWork; dsimp only; rw [if_pos hf]; rfl

theorem closingWork_secure (hf : w.ch.feedback.level = true) {r : EndReason} (hr : w.ch.stopRequest = .secure r) :
    closingWork e w = secureStop e r (closedWork e w) := by
  rw [closingWork_closed hf, hr]

theorem closingWork_start (hf : w.ch.feedback.level = true) (hr : ∀ r, w.ch.stopRequest ≠ .secure r) :
    closingWork e w = startProgram e (closedWork e w) := by
  rw [closingWork_closed hf]
  cases hs : w.ch.stopRequest with
  | secure r => exact absurd hs (hr r)
  | none => rfl
  | fast => rfl

theorem closingWork_limit (hf : w.ch.feedback.level = false) (hl : e.set.closeLimit ≤ w.ch.closeTimer + 1) :
    closingWork e w = { failClosing e .contactorNoClose (waitingWork w) with closeHit := true } := by
  unfold closingWork; dsimp only; rw [if_neg (by simp [hf]), if_pos hl]; rfl

theorem closingWork_waits (hf : w.ch.feedback.level = false) (hl : w.ch.closeTimer + 1 < e.set.closeLimit) :
    closingWork e w = waitingWork w := by
  unfold closingWork; dsimp only; rw [if_neg (by simp [hf]), if_neg (Nat.not_le.2 hl)]; rfl

end

theorem closedWork_kept (e : PeriodEnv) (w : Work) : KeptRun w.ch (closedWork e w).ch :=
  ⟨⟨rfl, rfl, rfl, rfl, rfl, rfl⟩, rfl, rfl, rfl⟩

theorem waitingWork_kept (w : Work) : KeptRun w.ch (waitingWork w).ch :=
  ⟨⟨rfl, rfl, rfl, rfl, rfl, rfl⟩, rfl, rfl, rfl⟩

/-- What CLOSING can do in a period after its entry, with its guards (R81, R82). -/
inductive Closing (e : PeriodEnv) (w : Work) : Work → Prop where
  | secure (r : EndReason) (hf : w.ch.feedback.level = true) (hr : w.ch.stopRequest = .secure r) :
    Closing e w (secureStop e r (closedWork e w))
  | start (hf : w.ch.feedback.level = true) : Closing e w (startProgram e (closedWork e w))
  | limit (hf : w.ch.feedback.level = false) :
    Closing e w { failClosing e .contactorNoClose (waitingWork w) with closeHit := true }
  | waits (hf : w.ch.feedback.level = false) : Closing e w (waitingWork w)

theorem closingWork_cases (e : PeriodEnv) (w : Work) : Closing e w (closingWork e w) := by
  cases hf : w.ch.feedback.level
  · by_cases hl : e.set.closeLimit ≤ w.ch.closeTimer + 1
    · rw [closingWork_limit hf hl]; exact .limit hf
    · rw [closingWork_waits hf (Nat.not_le.1 hl)]; exact .waits hf
  · by_cases hr : ∃ r, w.ch.stopRequest = .secure r
    · obtain ⟨r, hr⟩ := hr
      rw [closingWork_secure hf hr]; exact .secure r hf hr
    · rw [closingWork_start hf (not_exists.1 hr)]; exact .start hf

theorem Closing.kept {e : PeriodEnv} {w w' : Work} (h : Closing e w w') : KeptRun w.ch w'.ch := by
  cases h with
  | secure r hf hr => exact (closedWork_kept e w).trans (secureStop_kept e r (closedWork e w))
  | start hf => exact (closedWork_kept e w).trans (startProgram_kept e (closedWork e w))
  | limit hf => exact (waitingWork_kept w).trans (failClosing_kept e .contactorNoClose (waitingWork w))
  | waits hf => exact waitingWork_kept w

theorem closingWork_kept (e : PeriodEnv) (w : Work) : KeptRun w.ch (closingWork e w).ch := (closingWork_cases e w).kept

/-- A released channel is RUNNING again (R84). -/
def releasedWork (w : Work) : Work := { w with ch := { w.ch with state := .running } }

theorem releasedWork_kept (w : Work) : KeptRun w.ch (releasedWork w).ch := keptRun_state w.ch .running

theorem releaseHold_restart {e : PeriodEnv} {w : Work} {i : Nat} {s : Step} (hm : w.ch.holdMode = .restart)
    (hi : w.ch.sequencer.index = some i) (hs : currentStep e.programs w.ch = some s) :
    releaseHold e w = enterStep i s w.ch.sequencer.stack w.ch.sequencer.cycles (endStep e .restarted (releasedWork w)) := by
  have hs' : currentStep e.programs (releasedWork w).ch = some s := hs
  unfold releaseHold; dsimp only
  rw [if_pos hm]
  unfold releasedWork at hs'
  rw [hs', hi]; rfl

theorem releaseHold_freeze {e : PeriodEnv} {w : Work} (hm : w.ch.holdMode ≠ .restart) :
    releaseHold e w = runWork e (releasedWork w) := by
  unfold releaseHold; dsimp only; rw [if_neg hm]; rfl

/-- A RESTART release without a step, which no run reaches, only goes back to RUNNING. -/
theorem releaseHold_no_step {e : PeriodEnv} {w : Work} (hm : w.ch.holdMode = .restart)
    (h : w.ch.sequencer.index = none ∨ currentStep e.programs w.ch = none) : releaseHold e w = releasedWork w := by
  have h' : w.ch.sequencer.index = none ∨ currentStep e.programs (releasedWork w).ch = none := h
  unfold releasedWork at h'
  unfold releaseHold; dsimp only
  rw [if_pos hm]
  split
  · next hi hs => simp [hi, hs] at h'
  · rfl

/-- What a release can do (R84, R132, R152). -/
inductive Released (e : PeriodEnv) (w : Work) : Work → Prop where
  | restart (i : Nat) (s : Step) (hi : w.ch.sequencer.index = some i) (hs : currentStep e.programs w.ch = some s) :
    Released e w (enterStep i s w.ch.sequencer.stack w.ch.sequencer.cycles (endStep e .restarted (releasedWork w)))
  | freeze : Released e w (runWork e (releasedWork w))
  | nothing : Released e w (releasedWork w)

theorem releaseHold_cases (e : PeriodEnv) (w : Work) : Released e w (releaseHold e w) := by
  by_cases hm : w.ch.holdMode = .restart
  · cases hi : w.ch.sequencer.index with
    | none => rw [releaseHold_no_step hm (.inl hi)]; exact .nothing
    | some i =>
      cases hs : currentStep e.programs w.ch with
      | none => rw [releaseHold_no_step hm (.inr hs)]; exact .nothing
      | some s => rw [releaseHold_restart hm hi hs]; exact .restart i s hi hs
  · rw [releaseHold_freeze hm]; exact .freeze

theorem Released.kept {e : PeriodEnv} {w w' : Work} (h : Released e w w') : KeptRun w.ch w'.ch := by
  cases h with
  | restart i s hi hs =>
    exact ((releasedWork_kept w).trans (endStep_kept e .restarted (releasedWork w))).trans (enterStep_kept ..)
  | freeze => exact (releasedWork_kept w).trans (runWork_kept e (releasedWork w))
  | nothing => exact releasedWork_kept w

theorem releaseHold_kept (e : PeriodEnv) (w : Work) : KeptRun w.ch (releaseHold e w).ch := (releaseHold_cases e w).kept

theorem leaveOpening_kept (e : PeriodEnv) (w : Work) : KeptRun w.ch (leaveOpening e w).ch := by
  unfold leaveOpening; dsimp only
  split <;> exact ⟨⟨rfl, rfl, rfl, rfl, rfl, rfl⟩, rfl, rfl, rfl⟩

/-- OPENING after one more period: the open timer runs (R88). -/
def openTimed (w : Work) : Work := { w with ch := { w.ch with openTimer := w.ch.openTimer + 1 } }

theorem openTimed_kept (w : Work) : KeptRun w.ch (openTimed w).ch := ⟨⟨rfl, rfl, rfl, rfl, rfl, rfl⟩, rfl, rfl, rfl⟩

theorem openingWork_open {e : PeriodEnv} {w : Work} (hf : w.ch.feedback.level = false) :
    openingWork e w = leaveOpening e (openTimed w) := by
  unfold openingWork; dsimp only; rw [if_neg (by simp [hf])]; rfl

theorem openingWork_limit {e : PeriodEnv} {w : Work} (hf : w.ch.feedback.level = true)
    (hl : e.set.openLimit ≤ w.ch.openTimer + 1) :
    openingWork e w = { leaveOpening e (recordFault e (openTimed w) .contactorStuck) with openHit := true } := by
  unfold openingWork; dsimp only; rw [if_pos hf, if_pos hl]; rfl

theorem openingWork_waits {e : PeriodEnv} {w : Work} (hf : w.ch.feedback.level = true)
    (hl : w.ch.openTimer + 1 < e.set.openLimit) : openingWork e w = openTimed w := by
  unfold openingWork; dsimp only; rw [if_pos hf, if_neg (Nat.not_le.2 hl)]; rfl

/-- What OPENING can do in a period after its entry (R88, R89). -/
inductive Opening (e : PeriodEnv) (w : Work) : Work → Prop where
  | leaves : Opening e w (leaveOpening e (openTimed w))
  | limit : Opening e w { leaveOpening e (recordFault e (openTimed w) .contactorStuck) with openHit := true }
  | waits : Opening e w (openTimed w)

theorem openingWork_cases (e : PeriodEnv) (w : Work) : Opening e w (openingWork e w) := by
  cases hf : w.ch.feedback.level
  · rw [openingWork_open hf]; exact .leaves
  · by_cases hl : e.set.openLimit ≤ w.ch.openTimer + 1
    · rw [openingWork_limit hf hl]; exact .limit
    · rw [openingWork_waits hf (Nat.not_le.1 hl)]; exact .waits

theorem Opening.kept {e : PeriodEnv} {w w' : Work} (h : Opening e w w') : KeptRun w.ch w'.ch := by
  cases h with
  | leaves => exact (openTimed_kept w).trans (leaveOpening_kept e (openTimed w))
  | limit =>
    exact ((openTimed_kept w).trans (recordAll_kept e [.contactorStuck] (openTimed w))).trans
      (leaveOpening_kept e (recordFault e (openTimed w) .contactorStuck))
  | waits => exact openTimed_kept w

theorem openingWork_kept (e : PeriodEnv) (w : Work) : KeptRun w.ch (openingWork e w).ch := (openingWork_cases e w).kept

theorem beginRun_kept (ch : Channel) : Kept ch (beginRun ch) := ⟨rfl, rfl, rfl, rfl, rfl, rfl⟩

theorem Kept.trans {a b c : Channel} (h : Kept a b) (h' : Kept b c) : Kept a c :=
  ⟨h'.feedback.trans h.feedback, h'.fault.trans h.fault, h'.band.trans h.band, h'.vMeas.trans h.vMeas,
    h'.holdMode.trans h.holdMode, h'.persistence.trans h.persistence⟩

/-- The pack voltage lies in the window of the band in force (R80). -/
abbrev VoltageFits (e : PeriodEnv) (ch : Channel) : Prop :=
  (e.limits ch).vMin ≤ e.inp.v.toNat ∧ e.inp.v.toNat ≤ (e.limits ch).vMax

/-- The work of a run that has begun (R76). -/
def begunWork (w : Work) : Work := { w with ch := beginRun w.ch }

section
variable {e : PeriodEnv} {w : Work}

theorem takeRun_none (hr : w.ch.runRequest = false) : takeRun e w = w := by
  unfold takeRun; rw [if_neg (by simp [hr])]

theorem takeRun_stop (hr : w.ch.runRequest = true) (hs : e.stop = true) :
    takeRun e w = { w with ch := { w.ch with runRequest := false } } := by
  unfold takeRun; rw [if_pos hr, if_pos hs]

theorem takeRun_closed (hr : w.ch.runRequest = true) (hs : e.stop = false) (hf : w.ch.feedback.level = true) :
    takeRun e w = failClosing e .contactorStuck (begunWork w) := by
  unfold takeRun; dsimp only
  rw [if_pos hr, if_neg (by simp [hs]), if_pos (show (beginRun w.ch).feedback.level = true from hf)]; rfl

theorem takeRun_voltage (hr : w.ch.runRequest = true) (hs : e.stop = false) (hf : w.ch.feedback.level = false)
    (hv : ¬ VoltageFits e w.ch) : takeRun e w = failClosing e .packVoltage (begunWork w) := by
  have hv' : ¬ VoltageFits e (beginRun w.ch) := hv
  unfold takeRun; dsimp only
  rw [if_pos hr, if_neg (by simp [hs]), if_neg (show ¬ (beginRun w.ch).feedback.level = true by simp [beginRun, hf]),
    if_neg hv']; rfl

theorem takeRun_passes (hr : w.ch.runRequest = true) (hs : e.stop = false) (hf : w.ch.feedback.level = false)
    (hv : VoltageFits e w.ch) : takeRun e w = { w with ch := passPreClose (beginRun w.ch) } := by
  have hv' : VoltageFits e (beginRun w.ch) := hv
  unfold takeRun; dsimp only
  rw [if_pos hr, if_neg (by simp [hs]), if_neg (show ¬ (beginRun w.ch).feedback.level = true by simp [beginRun, hf]),
    if_pos hv']

end

/-- What IDLE and ENDED can do in a period (R76, R80). -/
inductive RunTaken (e : PeriodEnv) (w : Work) : Work → Prop where
  | none (hr : w.ch.runRequest = false) : RunTaken e w w
  | stop (hr : w.ch.runRequest = true) (hs : e.stop = true) : RunTaken e w { w with ch := { w.ch with runRequest := false } }
  | fails (c : Cause) (hr : w.ch.runRequest = true) (hs : e.stop = false) : RunTaken e w (failClosing e c (begunWork w))
  | passes (hr : w.ch.runRequest = true) (hs : e.stop = false) : RunTaken e w { w with ch := passPreClose (beginRun w.ch) }

theorem takeRun_cases (e : PeriodEnv) (w : Work) : RunTaken e w (takeRun e w) := by
  cases hr : w.ch.runRequest
  · rw [takeRun_none hr]; exact .none hr
  cases hs : e.stop
  case true => rw [takeRun_stop hr hs]; exact .stop hr hs
  cases hf : w.ch.feedback.level
  case true => rw [takeRun_closed hr hs hf]; exact .fails _ hr hs
  by_cases hv : VoltageFits e w.ch
  · rw [takeRun_passes hr hs hf hv]; exact .passes hr hs
  · rw [takeRun_voltage hr hs hf hv]; exact .fails _ hr hs

theorem RunTaken.kept {e : PeriodEnv} {w w' : Work} (h : RunTaken e w w') : Kept w.ch w'.ch := by
  cases h with
  | none hr => exact (KeptRun.refl _).toKept
  | stop hr hs => exact ⟨rfl, rfl, rfl, rfl, rfl, rfl⟩
  | fails c hr hs => exact (beginRun_kept w.ch).trans (failClosing_kept e c (begunWork w)).toKept
  | passes hr hs => exact ⟨rfl, rfl, rfl, rfl, rfl, rfl⟩

/-! ### The cases of stage 3 -/

/-- What stage 3 can decide, with its guards: `w` is the work with the detected causes recorded. -/
inductive Decision (e : PeriodEnv) (det : List Cause) (w : Work) : Work → Prop where
  | rests (hs : w.ch.state = .idle ∨ w.ch.state = .ended) : Decision e det w (takeRun e w)
  | fast (r : EndReason) (sr : StepEndReason) (hs : armedRun w.ch.state = true)
    (h : (det ≠ [] ∧ r = .fault ∧ sr = faultStepReason det) ∨
      (det = [] ∧ w.ch.stopRequest = .fast ∧ r = .forceStop ∧ sr = .forceStop)) : Decision e det w (fastStop e r sr w)
  | closing (hs : w.ch.state = .closing) (hd : det = []) (hr : w.ch.stopRequest ≠ .fast) :
    Decision e det w (closingWork e w)
  | secure (r : EndReason) (hs : w.ch.state = .running ∨ w.ch.state = .held) (hd : det = [])
    (hr : w.ch.stopRequest = .secure r) : Decision e det w (secureStop e r w)
  | hold (hs : w.ch.state = .running) (hd : det = []) (hr : w.ch.stopRequest = .none) (hh : holds e w.ch = true) :
    Decision e det w { w with ch := enterHeld e w.ch }
  | run (hs : w.ch.state = .running) (hd : det = []) (hr : w.ch.stopRequest = .none) (hh : holds e w.ch = false) :
    Decision e det w (runWork e w)
  | held (hs : w.ch.state = .held) (hd : det = []) (hr : w.ch.stopRequest = .none) (hh : e.hold = true) :
    Decision e det w w
  | release (hs : w.ch.state = .held) (hd : det = []) (hr : w.ch.stopRequest = .none) (hh : e.hold = false) :
    Decision e det w (releaseHold e w)
  | stopped (hs : w.ch.state = .stopping) (hd : det = []) (hr : w.ch.stopRequest ≠ .fast)
    (hz : w.ch.setpoint = 0 ∧ w.ch.confirmed = true) : Decision e det w { w with ch := enterOpening w.ch }
  | stopping (hs : w.ch.state = .stopping) (hd : det = []) (hr : w.ch.stopRequest ≠ .fast)
    (hz : ¬ (w.ch.setpoint = 0 ∧ w.ch.confirmed = true)) : Decision e det w w
  | opening (hs : w.ch.state = .opening) : Decision e det w (openingWork e w)
  | faulted (hs : w.ch.state = .faulted) : Decision e det w w

/-- Stage 3 decides one of these cases (R77, R84, R93). -/
theorem decideStage_cases (e : PeriodEnv) (det : List Cause) (w : Work) :
    Decision e det (det.foldl (recordFault e) w) (decideStage e det w) := by
  unfold decideStage; dsimp only
  generalize det.foldl (recordFault e) w = v
  cases hs : v.ch.state <;> dsimp only
  case idle => exact .rests (.inl hs)
  case ended => exact .rests (.inr hs)
  case opening => exact .opening hs
  case faulted => exact .faulted hs
  all_goals
    have harmed : armedRun v.ch.state = true := by rw [hs]; rfl
    split
    · next hd => exact .fast _ _ harmed (.inl ⟨hd, rfl, rfl⟩)
  case closing hd =>
    have hd : det = [] := not_not.1 hd
    split
    · next hr => exact .fast _ _ harmed (.inr ⟨hd, hr, rfl, rfl⟩)
    · next hr => exact .closing hs hd hr
  case running hd =>
    have hd : det = [] := not_not.1 hd
    split
    · next hr => exact .fast _ _ harmed (.inr ⟨hd, hr, rfl, rfl⟩)
    · next r hr => exact .secure r (.inl hs) hd hr
    · next hr =>
      split
      · next hh => exact .hold hs hd hr hh
      · next hh => exact .run hs hd hr (by simpa using hh)
  case held hd =>
    have hd : det = [] := not_not.1 hd
    split
    · next hr => exact .fast _ _ harmed (.inr ⟨hd, hr, rfl, rfl⟩)
    · next r hr => exact .secure r (.inr hs) hd hr
    · next hr =>
      split
      · next hh => exact .held hs hd hr hh
      · next hh => exact .release hs hd hr (by simpa using hh)
  case stopping hd =>
    have hd : det = [] := not_not.1 hd
    split
    · next hr => exact .fast _ _ harmed (.inr ⟨hd, hr, rfl, rfl⟩)
    · next hr =>
      split
      · next hz => exact .stopped hs hd hr hz
      · next hz => exact .stopping hs hd hr hz

/-- Stage 3 leaves what stage 1 measured, the hold mode and the persistence counts. -/
theorem Decision.kept {e : PeriodEnv} {det : List Cause} {w w' : Work} (h : Decision e det w w') : Kept w.ch w'.ch := by
  cases h with
  | rests hs => exact (takeRun_cases e w).kept
  | fast r sr hs h => exact fastStop_kept e r sr w
  | closing hs hd hr => exact (closingWork_kept e w).toKept
  | secure r hs hd hr => exact (secureStop_kept e r w).toKept
  | hold hs hd hr hh => exact (enterHeld_kept e w.ch).toKept
  | run hs hd hr hh => exact (runWork_kept e w).toKept
  | held => exact (KeptRun.refl _).toKept
  | release hs hd hr hh => exact (releaseHold_kept e w).toKept
  | stopped => exact ⟨rfl, rfl, rfl, rfl, rfl, rfl⟩
  | stopping => exact (KeptRun.refl _).toKept
  | opening hs => exact (openingWork_kept e w).toKept
  | faulted => exact (KeptRun.refl _).toKept

/-- A run request is not taken to a state with a converter: the channel stays, closes or faults. -/
theorem RunTaken.state {e : PeriodEnv} {w w' : Work} (h : RunTaken e w w') :
    w'.ch.state = w.ch.state ∨ w'.ch.state = .closing ∨ w'.ch.state = .faulted := by
  cases h with
  | none hr => exact .inl rfl
  | stop hr hs => exact .inl rfl
  | fails c hr hs => exact .inr (.inr rfl)
  | passes hr hs => exact .inr (.inl rfl)

/-- Stage 3 leaves the setpoint to the regulator where one works. -/
theorem Decision.setpoint {e : PeriodEnv} {det : List Cause} {w w' : Work} (h : Decision e det w w')
    (hr : regulates w'.ch.state = true) : w'.ch.setpoint = w.ch.setpoint := by
  cases h with
  | rests hs =>
    exfalso
    rcases (takeRun_cases e w).state with ht | ht | ht <;> rw [ht] at hr
    · rcases hs with hs | hs <;> (rw [hs] at hr; cases hr)
    · cases hr
    · cases hr
  | fast r sr hs h => cases hr
  | closing hs hd hr => exact (closingWork_kept e w).setpoint
  | secure r hs hd hr => exact (secureStop_kept e r w).setpoint
  | hold hs hd hr hh => exact (enterHeld_kept e w.ch).setpoint
  | run hs hd hr hh => exact (runWork_kept e w).setpoint
  | held => rfl
  | release hs hd hr hh => exact (releaseHold_kept e w).setpoint
  | stopped => rfl
  | stopping => rfl
  | opening hs => exact (openingWork_kept e w).setpoint
  | faulted => rfl

/-- Outside IDLE and ENDED stage 3 leaves the run totals. -/
theorem Decision.totals {e : PeriodEnv} {det : List Cause} {w w' : Work} (h : Decision e det w w')
    (hi : w.ch.state ≠ .idle) (he : w.ch.state ≠ .ended) :
    w'.ch.chargeIn = w.ch.chargeIn ∧ w'.ch.chargeOut = w.ch.chargeOut := by
  cases h with
  | rests hs => exact (hs.elim hi he).elim
  | fast r sr hs h => exact fastStop_totals e r sr w
  | closing hs hd hr => exact ⟨(closingWork_kept e w).chargeIn, (closingWork_kept e w).chargeOut⟩
  | secure r hs hd hr => exact ⟨(secureStop_kept e r w).chargeIn, (secureStop_kept e r w).chargeOut⟩
  | hold hs hd hr hh => exact ⟨(enterHeld_kept e w.ch).chargeIn, (enterHeld_kept e w.ch).chargeOut⟩
  | run hs hd hr hh => exact ⟨(runWork_kept e w).chargeIn, (runWork_kept e w).chargeOut⟩
  | held => exact ⟨rfl, rfl⟩
  | release hs hd hr hh => exact ⟨(releaseHold_kept e w).chargeIn, (releaseHold_kept e w).chargeOut⟩
  | stopped => exact ⟨rfl, rfl⟩
  | stopping => exact ⟨rfl, rfl⟩
  | opening hs => exact ⟨(openingWork_kept e w).chargeIn, (openingWork_kept e w).chargeOut⟩
  | faulted => exact ⟨rfl, rfl⟩

end Sys2Proof.Machine
end

section
/-! PROOFS. The channel invariant through a control period: stage 3 keeps the pairs, the record, the pacer and the sequencer in
order, and reaches a state with a converter through closed feedback alone (R83, R94, R117, R134, R155). -/

namespace Sys2Proof.Machine

/-! ### Programs -/

theorem stepsOf_fit {programs : List Program} (h : ProgramsFit programs) (p : Nat) :
    ∀ st ∈ stepsOf programs p, st.d ≤ Config.captureTop := by
  unfold stepsOf
  split
  · next pr hp => exact (h pr (List.mem_of_getElem? hp)).1
  · exact fun _ hst => absurd hst (List.not_mem_nil)

theorem currentStep_fits {programs : List Program} (h : ProgramsFit programs) {ch : Channel} {st : Step}
    (hs : currentStep programs ch = some st) : st.d ≤ Config.captureTop := by
  unfold currentStep at hs
  split at hs
  · exact stepsOf_fit h _ st (List.mem_of_getElem? hs)
  · cases hs

/-! ### What stage 3 leaves in order -/

/-- What the channel invariant asks of a channel after stage 3; the outputs are the next stages' work. -/
structure MidInv (c : Channel) : Prop where
  closed : regulates c.state = true → c.feedback.level = true
  pairs : PairsFit c
  record : RecordFits c
  pacer : PacerFits c.pacer
  step : StepFits c

/-- A channel that works a step: the contactor is closed, no fault is recorded, a step is current and not ended. -/
structure RunInv (c : Channel) : Prop where
  state : c.state = .running ∨ c.state = .held
  closed : c.feedback.level = true
  record : c.record = none
  pacer : PacerFits c.pacer
  index : c.sequencer.index.isSome = true
  ended : c.sequencer.ended = false
  terms : c.sequencer.counters.terms.length = 3

theorem RunInv.mid {c : Channel} (h : RunInv c) : MidInv c where
  closed := fun _ => h.closed
  pairs := fun hr hh => (h.state.elim hr hh).elim
  record := ⟨fun hf => by rcases h.state with hs | hs <;> simp [hs] at hf, fun _ _ => h.record⟩
  pacer := h.pacer
  step := ⟨fun _ => ⟨h.index, h.ended⟩, fun hc => by rcases h.state with hs | hs <;> simp [hs] at hc,
    fun hc => by rcases h.state with hs | hs <;> simp [hs] at hc, h.terms⟩

theorem fastStop_mid (e : PeriodEnv) (r : EndReason) (sr : StepEndReason) {w : Work} (hp : PacerFits w.ch.pacer)
    (ht : w.ch.sequencer.counters.terms.length = 3) : MidInv (fastStop e r sr w).ch := by
  unfold fastStop enterOpening
  rw [endStep_touches]
  exact ⟨nofun, fun _ _ => ⟨rfl, rfl⟩, ⟨nofun, fun _ h => absurd rfl h⟩, hp, ⟨nofun, nofun, nofun, ht⟩⟩

theorem secureStop_mid (e : PeriodEnv) (r : EndReason) {w : Work} (hf : w.ch.feedback.level = true)
    (hr : w.ch.record = none) (hp : PacerFits w.ch.pacer) (ht : w.ch.sequencer.counters.terms.length = 3) :
    MidInv (secureStop e r w).ch := by
  have hend := endStep_ended e (if r = .complete then .complete else .aborted) w
  unfold secureStop clearPairs
  rw [endStep_touches] at hend ⊢
  exact ⟨fun _ => hf, fun _ _ => ⟨rfl, rfl⟩, ⟨nofun, fun _ _ => hr⟩, hp, ⟨nofun, nofun, fun _ => hend, ht⟩⟩

theorem enterStep_run {i : Nat} {s : Step} {stack : List LoopEntry} {cycles : Nat} {w : Work}
    (hstate : w.ch.state = .running ∨ w.ch.state = .held)
    (hf : w.ch.feedback.level = true) (hr : w.ch.record = none) (hd : s.d ≤ Config.captureTop) :
    RunInv (enterStep i s stack cycles w).ch := by
  unfold enterStep; dsimp only
  rw [stagePulse_touches]
  exact ⟨hstate, hf, hr, ⟨Nat.le_refl _, hd⟩, rfl, rfl, rfl⟩

theorem withSequencer_run {w : Work} (h : RunInv w.ch) {q : Sequencer} (hi : q.index = w.ch.sequencer.index)
    (he : q.ended = w.ch.sequencer.ended) (ht : q.counters.terms.length = w.ch.sequencer.counters.terms.length) :
    RunInv (w.withSequencer q).ch :=
  ⟨h.state, h.closed, h.record, h.pacer, hi ▸ h.index, he ▸ h.ended, ht ▸ h.terms⟩

/-- The work of a step's end with the cycle count that its destination leaves (R123). -/
abbrev cycledWork (e : PeriodEnv) (i : Nat) (act : Action) (w : Work) : Work :=
  w.withSequencer { w.ch.sequencer with cycles := (resolveAction (stepsOfChannel e w.ch) i act w.ch.sequencer).cycles }

/-- Where a step's end leads (R123, R125). -/
abbrev actionDest (e : PeriodEnv) (i : Nat) (act : Action) (w : Work) : Resolved :=
  resolveAction (stepsOfChannel e w.ch) i act w.ch.sequencer

/-- The work of a program that finishes (R130). -/
def finishedWork (e : PeriodEnv) (w : Work) : Work :=
  (secureStop e .complete w).withSequencer { (secureStop e .complete w).ch.sequencer with stack := [] }

theorem finishStep_finish {e : PeriodEnv} {i : Nat} {r : StepEndReason} {act : Action} {w : Work}
    (hd : (actionDest e i act w).dest = .finish) : finishStep e i r act w = finishedWork e (cycledWork e i act w) := by
  unfold finishStep; dsimp only
  split
  · rfl
  · next j hj => rw [hd] at hj; cases hj

theorem finishStep_step {e : PeriodEnv} {i j : Nat} {r : StepEndReason} {act : Action} {w : Work} {s : Step}
    (hd : (actionDest e i act w).dest = .step j) (hs : (stepsOfChannel e w.ch)[j]? = some s) :
    finishStep e i r act w = enterStep j s (actionDest e i act w).stack (actionDest e i act w).cycles
      (endStep e r (cycledWork e i act w)) := by
  unfold finishStep; dsimp only
  split
  · next hf => rw [hd] at hf; cases hf
  · next j' hj =>
    rw [hd] at hj; cases hj
    split
    · next s' hs' => rw [hs] at hs'; cases hs'; rfl
    · next hs' => rw [hs] at hs'; cases hs'

/-- A step that ends leads to a working step of the program, or the program finishes (R125). -/
theorem actionDest_step {e : PeriodEnv} {i j : Nat} {act : Action} {w : Work}
    (hd : (actionDest e i act w).dest = .step j) :
    ∃ s, (stepsOfChannel e w.ch)[j]? = some s ∧ s.kind.working = true := by
  cases act with
  | next => exact resolve_step hd
  | goto t => exact resolve_step hd
  | finish => cases hd

/-- What the end of a step can do (R123, R128, R130). -/
inductive StepEnds (e : PeriodEnv) (i : Nat) (r : StepEndReason) (act : Action) (w : Work) : Work → Prop where
  | finishes (hd : (actionDest e i act w).dest = .finish) : StepEnds e i r act w (finishedWork e (cycledWork e i act w))
  | enters (j : Nat) (s : Step) (hd : (actionDest e i act w).dest = .step j)
    (hs : (stepsOfChannel e w.ch)[j]? = some s) :
    StepEnds e i r act w (enterStep j s (actionDest e i act w).stack (actionDest e i act w).cycles
      (endStep e r (cycledWork e i act w)))

theorem finishStep_cases (e : PeriodEnv) (i : Nat) (r : StepEndReason) (act : Action) (w : Work) :
    StepEnds e i r act w (finishStep e i r act w) := by
  cases hd : (actionDest e i act w).dest with
  | finish => rw [finishStep_finish hd]; exact .finishes hd
  | step j =>
    obtain ⟨s, hs, -⟩ := actionDest_step hd
    rw [finishStep_step hd hs]; exact .enters j s hd hs

section
variable {e : PeriodEnv} (hprog : ProgramsFit e.programs) {w w' : Work}
include hprog

theorem StepEnds.mid {i : Nat} {r : StepEndReason} {act : Action} (hw : StepEnds e i r act w w') (h : RunInv w.ch) :
    MidInv w'.ch := by
  obtain hd | ⟨j, s, hd, hs⟩ := hw
  · have hmid : MidInv (secureStop e .complete (cycledWork e i act w)).ch :=
      secureStop_mid e .complete h.closed h.record h.pacer h.terms
    exact ⟨hmid.closed, hmid.pairs, hmid.record, hmid.pacer, hmid.step⟩
  · refine (enterStep_run ?_ ?_ ?_ (stepsOf_fit hprog _ s (List.mem_of_getElem? hs))).mid
    all_goals rw [endStep_touches]
    · exact h.state
    · exact h.closed
    · exact h.record

theorem Sequenced.mid (hw : Sequenced e w w') (h : RunInv w.ch) : MidInv w'.ch := by
  have hop : RunInv (w.withSequencer (operatorSequencer e w.ch)).ch := withSequencer_run h rfl rfl rfl
  have hon (s : Step) : RunInv (w.withSequencer (countedSequencer e w.ch s)).ch :=
    withSequencer_run h rfl rfl (termCounts_length ..)
  cases hw with
  | nothing _ => exact h.mid
  | on i s hi hs => exact (hon s).mid
  | operator i s hi hs => exact (finishStep_cases ..).mid hprog hop
  | term i s pos act hi hs => exact (finishStep_cases ..).mid hprog (hon s)

theorem runWork_mid (h : RunInv w.ch) : MidInv (runWork e w).ch := by
  have hb : RunInv (boundaryCount e w.ch) := by
    rw [boundaryCount_touches]
    exact ⟨h.state, h.closed, h.record, h.pacer, h.index, h.ended, h.terms⟩
  exact (sequence_cases e { w with ch := boundaryCount e w.ch }).mid hprog hb

theorem Released.mid (hw : Released e w w') (h : RunInv w.ch) : MidInv w'.ch := by
  have hr : RunInv (releasedWork w).ch := ⟨.inl rfl, h.closed, h.record, h.pacer, h.index, h.ended, h.terms⟩
  cases hw with
  | restart i s hi hs =>
    refine (enterStep_run ?_ ?_ ?_ (currentStep_fits hprog hs)).mid
    all_goals rw [endStep_touches]
    · exact hr.state
    · exact h.closed
    · exact h.record
  | freeze => exact runWork_mid hprog hr
  | nothing => exact hr.mid

end

theorem enterHeld_mid (e : PeriodEnv) {c : Channel} (h : RunInv c) : MidInv (enterHeld e c) := by
  have hh : RunInv (enterHeld e c) := by
    rw [enterHeld_touches]
    exact ⟨.inr rfl, h.closed, h.record, h.pacer, h.index, h.ended, h.terms⟩
  exact hh.mid

theorem failClosing_mid (e : PeriodEnv) (c : Cause) {w : Work} (hpairs : PairsFit w.ch) (hs : w.ch.state = .closing)
    (hp : PacerFits w.ch.pacer) (ht : w.ch.sequencer.counters.terms.length = 3) : MidInv (failClosing e c w).ch := by
  have hclear := hpairs (by simp [hs]) (by simp [hs])
  obtain ⟨r, fs, hr⟩ := recordFault_spec e w c
  unfold failClosing
  rw [hr]
  exact ⟨nofun, fun _ _ => hclear, ⟨fun _ => rfl, fun h => absurd rfl h⟩, hp, ⟨nofun, nofun, nofun, ht⟩⟩

theorem startProgram_finish {e : PeriodEnv} {w : Work}
    (hd : (resolve (stepsOfChannel e w.ch) (resolveFuel (stepsOfChannel e w.ch)) 0 w.ch.sequencer.stack
      w.ch.sequencer.cycles).dest = .finish) : startProgram e w = secureStop e .complete w := by
  unfold startProgram; dsimp only
  split
  · rfl
  · next j hj => rw [hd] at hj; cases hj

/-- Where the end of CLOSING leads: step 0, resolved (R81). -/
abbrev startDest (e : PeriodEnv) (w : Work) : Resolved :=
  resolve (stepsOfChannel e w.ch) (resolveFuel (stepsOfChannel e w.ch)) 0 w.ch.sequencer.stack w.ch.sequencer.cycles

/-- The work of a program whose first working step is entered (R81, R118). -/
abbrev startedWork (e : PeriodEnv) (j : Nat) (s : Step) (w : Work) : Work :=
  enterStep j s (startDest e w).stack (startDest e w).cycles w

theorem startProgram_held {e : PeriodEnv} {w : Work} {j : Nat} {s : Step} (hd : (startDest e w).dest = .step j)
    (hs : (stepsOfChannel e w.ch)[j]? = some s) (hh : holds e w.ch = true) :
    startProgram e w = { startedWork e j s w with ch := enterHeld e (startedWork e j s w).ch } := by
  have hh' : holds e (startedWork e j s w).ch = true := by
    unfold holds; rw [(enterStep_kept ..).holdMode]; exact hh
  unfold startProgram; dsimp only
  split
  · next hf => rw [hd] at hf; cases hf
  · next j' hj =>
    rw [hd] at hj; cases hj
    split
    · next s' hs' => rw [hs] at hs'; cases hs'; rw [if_pos hh']
    · next hs' => rw [hs] at hs'; cases hs'

theorem startProgram_running {e : PeriodEnv} {w : Work} {j : Nat} {s : Step} (hd : (startDest e w).dest = .step j)
    (hs : (stepsOfChannel e w.ch)[j]? = some s) (hh : holds e w.ch = false) :
    startProgram e w = releasedWork (startedWork e j s w) := by
  have hh' : ¬ holds e (startedWork e j s w).ch = true := by
    unfold holds; rw [(enterStep_kept ..).holdMode]; simpa [holds] using hh
  unfold startProgram; dsimp only
  split
  · next hf => rw [hd] at hf; cases hf
  · next j' hj =>
    rw [hd] at hj; cases hj
    split
    · next s' hs' => rw [hs] at hs'; cases hs'; rw [if_neg hh']; rfl
    · next hs' => rw [hs] at hs'; cases hs'

/-- What the end of CLOSING with no stop posted can do (R81). -/
inductive Started (e : PeriodEnv) (w : Work) : Work → Prop where
  | finishes (hd : (startDest e w).dest = .finish) : Started e w (secureStop e .complete w)
  | held (j : Nat) (s : Step) (hs : (stepsOfChannel e w.ch)[j]? = some s) (hh : holds e w.ch = true) :
    Started e w { startedWork e j s w with ch := enterHeld e (startedWork e j s w).ch }
  | runs (j : Nat) (s : Step) (hs : (stepsOfChannel e w.ch)[j]? = some s) (hh : holds e w.ch = false) :
    Started e w (releasedWork (startedWork e j s w))

theorem startProgram_cases (e : PeriodEnv) (w : Work) : Started e w (startProgram e w) := by
  cases hd : (startDest e w).dest with
  | finish => rw [startProgram_finish hd]; exact .finishes hd
  | step j =>
    obtain ⟨s, hs, -⟩ := resolve_step hd
    cases hh : holds e w.ch
    · rw [startProgram_running hd hs hh]; exact .runs j s hs hh
    · rw [startProgram_held hd hs hh]; exact .held j s hs hh

theorem Started.mid {e : PeriodEnv} (hprog : ProgramsFit e.programs) {w w' : Work} (hw : Started e w w') (hf : w.ch.feedback.level = true)
    (hr : w.ch.record = none) (hp : PacerFits w.ch.pacer) (ht : w.ch.sequencer.counters.terms.length = 3) :
    MidInv w'.ch := by
  have hrun (j : Nat) (s : Step) (hs : (stepsOfChannel e w.ch)[j]? = some s) :
      RunInv (releasedWork (startedWork e j s w)).ch := by
    unfold releasedWork startedWork enterStep; dsimp only
    rw [stagePulse_touches]
    exact ⟨.inl rfl, hf, hr, ⟨Nat.le_refl _, stepsOf_fit hprog _ s (List.mem_of_getElem? hs)⟩, rfl, rfl, rfl⟩
  cases hw with
  | finishes hd => exact secureStop_mid e .complete hf hr hp ht
  | held j s hs hh =>
    have h := hrun j s hs
    refine RunInv.mid ?_
    dsimp only
    rw [enterHeld_touches]
    exact ⟨.inr rfl, h.closed, h.record, h.pacer, h.index, h.ended, h.terms⟩
  | runs j s hs hh => exact (hrun j s hs).mid

/-! ### Stage 3 as a whole -/

/-- What stage 3 needs of a channel with its causes recorded: what the channel invariant says, and that closed feedback stands
where no cause was detected. -/
structure BeforeStage (det : List Cause) (c : Channel) : Prop where
  closed : det = [] → armedClosed c.state = true → c.feedback.level = true
  rests : c.state = .idle ∨ c.state = .ended → c.record = none
  none : det = [] → c.state ≠ .faulted → c.state ≠ .opening → c.record = none
  faulted : c.state = .faulted → c.record.isSome = true
  pairs : PairsFit c
  pacer : PacerFits c.pacer
  step : StepFits c

theorem BeforeStage.run {det : List Cause} {c : Channel} (h : BeforeStage det c) (hd : det = [])
    (hs : c.state = .running ∨ c.state = .held) : RunInv c := by
  have hnone := h.none hd
  obtain ⟨hrun, -, -, hterms⟩ := h.step
  refine ⟨hs, h.closed hd ?_, ?_, h.pacer, (hrun hs).1, (hrun hs).2, hterms⟩
  · rcases hs with hs | hs <;> (rw [hs]; rfl)
  · rcases hs with hs | hs <;> exact hnone (by simp [hs]) (by simp [hs])

theorem RunTaken.mid {e : PeriodEnv} {w w' : Work} (h : RunTaken e w w') {det : List Cause} (hb : BeforeStage det w.ch)
    (hs : w.ch.state = .idle ∨ w.ch.state = .ended) : MidInv w'.ch := by
  have hrec := hb.rests hs
  have hpairs := hb.pairs
  have hclear : w.ch.live = LivePair.clear ∧ w.ch.staged = StagedPair.clear :=
    hb.pairs (by rcases hs with hs | hs <;> simp [hs]) (by rcases hs with hs | hs <;> simp [hs])
  have hreg : regulates w.ch.state = false := by rcases hs with hs | hs <;> (rw [hs]; rfl)
  have hpacer : PacerFits Pacer.off := ⟨Nat.zero_le _, Nat.zero_le _⟩
  cases h with
  | none hr => exact ⟨by simp [hreg], hpairs, ⟨fun h => by rcases hs with hs | hs <;> simp [hs] at h, fun _ _ => hrec⟩,
      hb.pacer, hb.step⟩
  | stop hr hst => exact ⟨by simp [hreg], hpairs, ⟨fun h => by rcases hs with hs | hs <;> simp [hs] at h, fun _ _ => hrec⟩,
      hb.pacer, hb.step⟩
  | fails c hr hst => exact failClosing_mid e c (fun _ _ => hclear) rfl hpacer rfl
  | passes hr hst =>
    exact ⟨nofun, fun _ _ => hclear, ⟨nofun, fun _ _ => hrec⟩, hpacer, ⟨nofun, fun _ => ⟨rfl, rfl, rfl⟩, nofun, rfl⟩⟩

theorem leaveOpening_mid (e : PeriodEnv) {w : Work} (hp : w.ch.live = LivePair.clear ∧ w.ch.staged = StagedPair.clear)
    (hpacer : PacerFits w.ch.pacer) (ht : w.ch.sequencer.counters.terms.length = 3) : MidInv (leaveOpening e w).ch := by
  unfold leaveOpening; dsimp only
  split
  · next hr => exact ⟨nofun, fun _ _ => hp, ⟨fun _ => hr, fun h => absurd rfl h⟩, hpacer, ⟨nofun, nofun, nofun, ht⟩⟩
  · next hr => exact ⟨nofun, fun _ _ => hp, ⟨nofun, fun _ _ => by simpa using hr⟩, hpacer, ⟨nofun, nofun, nofun, ht⟩⟩

theorem Opening.mid {e : PeriodEnv} {w w' : Work} (h : Opening e w w') {det : List Cause} (hb : BeforeStage det w.ch)
    (hs : w.ch.state = .opening) : MidInv w'.ch := by
  have hclear := hb.pairs (by simp [hs]) (by simp [hs])
  obtain ⟨-, -, -, hterms⟩ := hb.step
  cases h with
  | leaves => exact leaveOpening_mid e (w := openTimed w) hclear hb.pacer hterms
  | limit =>
    obtain ⟨r, fs, hr⟩ := recordFault_spec e (openTimed w) .contactorStuck
    dsimp only
    rw [hr]
    exact leaveOpening_mid e hclear hb.pacer hterms
  | waits =>
    refine ⟨fun h => ?_, fun _ _ => hclear, ⟨fun h => ?_, fun _ h => absurd hs h⟩, hb.pacer, hb.step⟩
    · have : regulates w.ch.state = true := h
      rw [hs] at this; cases this
    · have : w.ch.state = .faulted := h
      rw [hs] at this; cases this

theorem Closing.mid {e : PeriodEnv} (hprog : ProgramsFit e.programs) {w w' : Work} (h : Closing e w w') {det : List Cause}
    (hb : BeforeStage det w.ch) (hd : det = []) (hs : w.ch.state = .closing) : MidInv w'.ch := by
  have hrec : w.ch.record = none := hb.none hd (by simp [hs]) (by simp [hs])
  obtain ⟨-, -, -, hterms⟩ := hb.step
  cases h with
  | secure r hf hr => exact secureStop_mid e r hf hrec hb.pacer hterms
  | start hf => exact (startProgram_cases e (closedWork e w)).mid hprog hf hrec hb.pacer hterms
  | limit hf => exact failClosing_mid e .contactorNoClose (w := waitingWork w) hb.pairs hs hb.pacer hterms
  | waits hf =>
    refine ⟨fun h => ?_, hb.pairs, ⟨fun h => ?_, fun _ _ => hrec⟩, hb.pacer, hb.step⟩
    · have : regulates w.ch.state = true := h
      rw [hs] at this; cases this
    · have : w.ch.state = .faulted := h
      rw [hs] at this; cases this

theorem Decision.mid {e : PeriodEnv} (hprog : ProgramsFit e.programs) {det : List Cause} {w w' : Work}
    (h : Decision e det w w') (hb : BeforeStage det w.ch) : MidInv w'.ch := by
  have ⟨_, _, hstop, hterms⟩ := hb.step
  cases h with
  | rests hs => exact (takeRun_cases e w).mid hb hs
  | fast r sr hs h => exact fastStop_mid e r sr hb.pacer hterms
  | closing hs hd hr => exact (closingWork_cases e w).mid hprog hb hd hs
  | secure r hs hd hr =>
    have h := hb.run hd hs
    exact secureStop_mid e r h.closed h.record h.pacer h.terms
  | hold hs hd hr hh => exact enterHeld_mid e (hb.run hd (.inl hs))
  | run hs hd hr hh => exact runWork_mid hprog (hb.run hd (.inl hs))
  | held hs hd hr hh => exact (hb.run hd (.inr hs)).mid
  | release hs hd hr hh => exact (releaseHold_cases e w).mid hprog (hb.run hd (.inr hs))
  | stopped hs hd hr hz =>
    have hclear := hb.pairs (by simp [hs]) (by simp [hs])
    exact ⟨nofun, fun _ _ => hclear, ⟨nofun, fun _ h => absurd rfl h⟩, hb.pacer, ⟨nofun, nofun, nofun, hterms⟩⟩
  | stopping hs hd hr hz =>
    exact ⟨fun _ => hb.closed hd (by rw [hs]; rfl), hb.pairs,
      ⟨fun h => by simp [hs] at h, hb.none hd⟩, hb.pacer, hb.step⟩
  | opening hs => exact (openingWork_cases e w).mid hb hs
  | faulted hs =>
    exact ⟨by simp [hs, regulates], hb.pairs, ⟨hb.faulted, fun h => absurd hs h⟩, hb.pacer, hb.step⟩

/-! ### The causes -/

/-- In IDLE and ENDED no cause is armed (R91). -/
theorem detected_rests (e : PeriodEnv) {c : Channel} (hs : c.state = .idle ∨ c.state = .ended) : detected e c = [] := by
  unfold detected timedCauses persist
  rcases hs with hs | hs <;> simp [hs, armedRun, armedClosed, armedLimits]

/-- Where no cause is detected in a state with a closed contactor, the feedback reads closed (R91). -/
theorem closed_of_detected_nil {e : PeriodEnv} {c : Channel} (hd : detected e c = []) (ha : armedClosed c.state = true) :
    c.feedback.level = true := by
  unfold detected at hd
  simp only [List.append_eq_nil_iff, ha, Bool.true_and] at hd
  obtain ⟨⟨⟨⟨⟨⟨-, hdropped⟩, -⟩, -⟩, -⟩, -⟩, -⟩ := hd
  simpa using hdropped

/-- Recording the detected causes prepares a channel for stage 3. -/
theorem beforeStage_recordAll (e : PeriodEnv) {det : List Cause} {w : Work}
    (hclosed : det = [] → armedClosed w.ch.state = true → w.ch.feedback.level = true)
    (hrests : w.ch.state = .idle ∨ w.ch.state = .ended → det = []) (hpairs : PairsFit w.ch) (hrecord : RecordFits w.ch)
    (hpacer : PacerFits w.ch.pacer) (hstep : StepFits w.ch) : BeforeStage det (det.foldl (recordFault e) w).ch := by
  obtain ⟨hfaulted, hnone⟩ := hrecord
  have hsome := recordAll_isSome e (cs := det) (w := w)
  have hnil : det = [] → (det.foldl (recordFault e) w).ch.record = w.ch.record := by rintro rfl; rfl
  rw [recordAll_touches]
  generalize (det.foldl (recordFault e) w).ch.record = r at hsome hnil
  refine ⟨hclosed, fun hs => ?_, fun hd hf ho => ?_, fun hs => hsome (.inr (hfaulted hs)), hpairs, hpacer, hstep⟩
  · have hs : w.ch.state = .idle ∨ w.ch.state = .ended := hs
    exact (hnil (hrests hs)).trans
      (hnone (by rcases hs with hs | hs <;> simp [hs]) (by rcases hs with hs | hs <;> simp [hs]))
  · exact (hnil hd).trans (hnone hf ho)

section
variable (e : PeriodEnv) (ch : Channel)

@[simp] theorem measured_state : (measured e ch).state = ch.state := rfl
@[simp] theorem measured_record : (measured e ch).record = ch.record := rfl
@[simp] theorem measured_sequencer : (measured e ch).sequencer = ch.sequencer := rfl
@[simp] theorem measured_pacer : (measured e ch).pacer = ch.pacer := rfl
@[simp] theorem measured_live : (measured e ch).live = ch.live := rfl
@[simp] theorem measured_staged : (measured e ch).staged = ch.staged := rfl
@[simp] theorem measured_stopRequest : (measured e ch).stopRequest = ch.stopRequest := rfl
@[simp] theorem measured_endReason : (measured e ch).endReason = ch.endReason := rfl
@[simp] theorem measured_holdMode : (measured e ch).holdMode = ch.holdMode := rfl
@[simp] theorem measured_setpoint : (measured e ch).setpoint = ch.setpoint := rfl
@[simp] theorem measured_confirmed : (measured e ch).confirmed = ch.confirmed := rfl
@[simp] theorem measured_closeTimer : (measured e ch).closeTimer = ch.closeTimer := rfl
@[simp] theorem measured_openTimer : (measured e ch).openTimer = ch.openTimer := rfl
@[simp] theorem measured_lastClose : (measured e ch).lastClose = ch.lastClose := rfl
@[simp] theorem measured_runRequest : (measured e ch).runRequest = ch.runRequest := rfl
@[simp] theorem measured_runProgram : (measured e ch).runProgram = ch.runProgram := rfl
@[simp] theorem measured_startMode : (measured e ch).startMode = ch.startMode := rfl
@[simp] theorem measured_startProgram : (measured e ch).startProgram = ch.startProgram := rfl
@[simp] theorem measured_regulator : (measured e ch).regulator = ch.regulator := rfl
@[simp] theorem measured_feedback : (measured e ch).feedback = filterSample ch.feedback e.inp.feedback := rfl
@[simp] theorem measured_fault : (measured e ch).fault = filterSample ch.fault e.inp.fault := rfl
@[simp] theorem measured_band : (measured e ch).band = some (bandNext e.st e.inp.t.toInt ch.band) := rfl
@[simp] theorem measured_vMeas : (measured e ch).vMeas = e.inp.v := rfl

end

theorem beforeStage_of_inv (e : PeriodEnv) {ch : Channel} (h : ChannelInv ch) :
    BeforeStage (causesIn e ch) ((causesIn e ch).foldl (recordFault e) (Work.of (measured e ch))).ch := by
  obtain ⟨-, -, hpairs, hrecord, hpacer, hstep⟩ := h
  exact beforeStage_recordAll e (w := Work.of (measured e ch)) (fun hd ha => closed_of_detected_nil (c := measure e ch) hd ha)
    (fun hs => detected_rests e (c := measure e ch) hs) hpairs hrecord hpacer hstep

theorem decided_mid {e : PeriodEnv} (hprog : ProgramsFit e.programs) {ch : Channel} (h : ChannelInv ch) :
    MidInv (decided e ch).ch :=
  (decideStage_cases e (causesIn e ch) (Work.of (measured e ch))).mid hprog (beforeStage_of_inv e h)

/-! ### The rest of the period -/

theorem pulseOutput_rests (e : PeriodEnv) {w : Work} (hs : w.ch.state ≠ .running) : pulseOutput e w = w := by
  unfold pulseOutput; rw [if_neg hs]

theorem captureStage_pacer_fits (e : PeriodEnv) {w : Work} (h : PacerFits w.ch.pacer) :
    PacerFits (captureStage e w).ch.pacer := by
  unfold captureStage; split
  · exact pacerWork_fits _ h
  · exact h

theorem captureStage_off (e : PeriodEnv) {w : Work} (h : w.ch.pacer = Pacer.off) :
    (captureStage e w).ch.pacer = Pacer.off := by
  unfold captureStage; split
  · dsimp only; rw [h]; rfl
  · exact h

theorem MidInv.pulse {e : PeriodEnv} {w : Work} (h : MidInv w.ch) : MidInv (pulseOutput e w).ch := by
  by_cases hs : w.ch.state = .running
  · rw [pulseOutput_touches]
    exact ⟨h.closed, fun hn => absurd hs hn, h.record, h.pacer, h.step⟩
  · rw [pulseOutput_rests e hs]; exact h

theorem MidInv.capture {e : PeriodEnv} {w : Work} (h : MidInv w.ch) : MidInv (captureStage e w).ch := by
  have hpacer := captureStage_pacer_fits e h.pacer
  have hoff := captureStage_off e (w := w)
  rw [captureStage_touches]
  obtain ⟨hrun, hclosing, hstop, hterms⟩ := h.step
  refine ⟨h.closed, h.pairs, h.record, hpacer, hrun, fun hs => ?_, hstop, hterms⟩
  obtain ⟨hindex, hended, hp⟩ := hclosing hs
  exact ⟨hindex, hended, hoff hp⟩

theorem worked_mid {e : PeriodEnv} {ch : Channel} (h : MidInv (decided e ch).ch) : MidInv (worked e ch).ch :=
  h.pulse.capture

/-- The outputs complete the channel invariant: the converter is enabled in RUNNING, HELD and STOPPING alone (R83, R99). -/
theorem MidInv.outputs {e : PeriodEnv} {w : Work} (h : MidInv w.ch) : ChannelInv (outputStages e w) := by
  obtain ⟨hstate, henabled, hdrive, hfeedback, hsetpoint⟩ := outputStages_outputs e w
  refine ⟨fun he => ?_, fun hr => ?_, ?_⟩
  · rw [henabled] at he
    rw [hstate, hdrive, hfeedback, he]
    exact ⟨rfl, Bool.or_true _, h.closed he⟩
  · rw [hstate] at hr; exact hsetpoint hr
  · rw [outputStages_touches]
    exact ⟨h.pairs, h.record, h.pacer, h.step⟩

/-- A control period keeps the invariant of an enabled channel. -/
theorem channelPeriod_inv {e : PeriodEnv} (hprog : ProgramsFit e.programs) {ch : Channel} (h : ChannelInv ch) :
    ChannelInv (channelPeriod e ch).ch := by
  rw [channelPeriod_ch]
  exact (worked_mid (decided_mid hprog h)).outputs

end Sys2Proof.Machine
end

section
/-! PROOFS. Every event keeps the channel invariant: link events touch requests and the starved-round count alone, console commands
judge enabled channels, and a profile gives programs that fit (R112, R115, R116, R145). -/

namespace Sys2Proof.Machine

/-! ### Reset -/

theorem channelInv_reset : ChannelInv Channel.reset :=
  ⟨nofun, fun _ => rfl, fun _ _ => ⟨rfl, rfl⟩, ⟨nofun, fun _ _ => rfl⟩, ⟨Nat.zero_le _, Nat.zero_le _⟩,
    ⟨by simp [Channel.reset], nofun, nofun, rfl⟩⟩

theorem restsIdle_reset : RestsIdle Channel.reset := ⟨rfl, rfl, rfl, rfl, rfl⟩

theorem absent_fits : (∀ st ∈ Program.absent.steps, st.d ≤ Config.captureTop) ∧ loopsOk Program.absent.steps = true :=
  ⟨fun _ h => absurd h List.not_mem_nil, rfl⟩

theorem channelsInv_reset : ChannelsInv State.reset := by
  refine ⟨fun p hp => ?_, fun k => ?_⟩
  · rw [List.eq_of_mem_replicate (show p ∈ List.replicate 8 Program.absent from hp)]; exact absent_fits
  · show ChannelInv ((Quad.same Channel.reset).get k) ∧ (_ → RestsIdle ((Quad.same Channel.reset).get k))
    rw [Quad.get_same]
    exact ⟨channelInv_reset, fun _ => restsIdle_reset⟩

/-- Settles O55: each invariant at reset. -/
theorem invariantsHoldAtReset : Obligations.InvariantsHoldAtReset := by
  unfold Obligations.InvariantsHoldAtReset
  exact ⟨bufferInv_reset, captureInv_reset, heardInv_reset, linkInv_reset, channelsInv_reset⟩

/-! ### Link events -/

/-- A channel under a link event: at most its requests and its starved-round count differ, and no run request is new. -/
def Noticed (a b : Channel) : Prop :=
  ∃ rr sr n, (rr = true → a.runRequest = true) ∧ b = { a with
    runRequest := rr, stopRequest := sr
    sequencer := { a.sequencer with counters := { a.sequencer.counters with starved := n } } }

theorem Noticed.refl (a : Channel) : Noticed a a := ⟨_, _, _, id, rfl⟩

theorem Noticed.trans {a b c : Channel} (h : Noticed a b) (h' : Noticed b c) : Noticed a c := by
  obtain ⟨rr, sr, n, hrr, rfl⟩ := h
  obtain ⟨rr', sr', n', hrr', rfl⟩ := h'
  exact ⟨rr', sr', n', fun h => hrr (hrr' h), rfl⟩

theorem starveChannel_noticed (d g : Int) (ch : Channel) : Noticed ch (starveChannel d g ch) := by
  obtain ⟨n, hn⟩ := starveChannel_keeps d g ch
  exact ⟨ch.runRequest, ch.stopRequest, n, id, hn⟩

theorem exclusionNotice_noticed (ch : Channel) : Noticed ch (exclusionNotice ch) := by
  have hpost : Noticed ch (postSecure .excluded ch) := by
    unfold postSecure; split
    · exact ⟨_, _, _, id, rfl⟩
    · exact .refl ch
  unfold exclusionNotice
  split
  case h_1 | h_2 => exact ⟨false, _, _, nofun, rfl⟩
  case h_3 | h_4 | h_5 => exact hpost
  case h_6 | h_7 | h_8 => exact .refl ch

theorem Noticed.inv {a b : Channel} (h : Noticed a b) (ha : ChannelInv a) : ChannelInv b := by
  obtain ⟨rr, sr, n, -, rfl⟩ := h
  exact ha

theorem Noticed.rests {a b : Channel} (h : Noticed a b) (ha : RestsIdle a) : RestsIdle b := by
  obtain ⟨rr, sr, n, hrr, rfl⟩ := h
  obtain ⟨hstate, hrun, hmore⟩ := ha
  refine ⟨hstate, ?_, hmore⟩
  cases rr
  · rfl
  · exact absurd (hrr rfl) (by simp [hrun])

theorem noticeAll_noticed (notice : Bool) (chs : Quad Channel) (k : Fin 4) :
    Noticed (chs.get k) ((if notice then chs.map exclusionNotice else chs).get k) := by
  cases notice
  · exact .refl _
  · rw [if_pos rfl, Quad.get_map]; exact exclusionNotice_noticed _

theorem settleReports_noticed (s : State) (r : Reports) (k : Fin 4) :
    Noticed (s.channels.get k) ((settleReports s r).channels.get k) := noticeAll_noticed _ _ k

theorem settleRound_noticed (s : State) (r : Reports) (k : Fin 4) :
    Noticed (s.channels.get k) ((settleRound s r).channels.get k) := by
  have hstarve (st : Settings) (programs : List Program) (grants : Quad Int) (chs : Quad Channel) :
      Noticed (chs.get k) ((starveAll st programs grants chs).get k) := by
    unfold starveAll; rw [Quad.get_tab]; exact starveChannel_noticed _ _ _
  unfold settleRound; dsimp only
  split <;> exact (noticeAll_noticed _ _ k).trans (hstarve _ _ _ _)

theorem acceptShare_channels (f : ShareFrame) (s : State) : (acceptShare f s).channels = s.channels := by
  unfold acceptShare; dsimp only; split <;> rfl

theorem LinkEvent.noticed {s t : State} (h : LinkEvent s t) (k : Fin 4) : Noticed (s.channels.get k) (t.channels.get k) := by
  cases h
  case rollover =>
    by_cases hr : Ready s
    · rw [rollover_of_ready hr, sendMark_channels]; exact settleRound_noticed (turned s) _ k
    · rw [rollover_of_not_ready hr]; exact .refl _
  case mark f arr =>
    generalize ht : receiveMark f arr s = t
    cases ht ▸ receiveMark_cases f arr s with
    | unready h => exact .refl _
    | ignored h hj => exact .refl _
    | round h out hj => exact settleRound_noticed (rephased s f arr _) _ k
    | reports h out hj => exact settleReports_noticed (rephased s f arr _) _ k
  case window =>
    cases h : windowOpen s
    · rw [passWindow_of_not_open h]; exact .refl _
    · rw [passWindow_of_open h]; exact settleReports_noticed (windowed s) _ k
  case markReadback bytes =>
    cases h : markOnLine s with
    | none => rw [readMark_of_none h]; exact .refl _
    | some x => rw [readMark_of_mark (f := x.1) (c := x.2) h]; exact settleReports_noticed (markRead s _) _ k
  case latch => unfold latchSlot; split <;> exact .refl _
  case share => rw [sendShare_touches]; exact .refl _
  case walkStart => unfold startWalk; split <;> exact .refl _
  case walkCompletion => unfold completeWalk; split <;> exact .refl _
  case shareFrame f arr =>
    unfold receiveShare; split
    · dsimp only
      split
      · rw [acceptShare_channels]; exact .refl _
      · exact .refl _
    · exact .refl _
  case shareReadback bytes =>
    generalize ht : readShare bytes s = t
    cases ht ▸ readShare_cases bytes s with
    | nothing h => exact .refl _
    | cut f h => exact .refl _
    | success f h => exact .refl _
    | failure f h => exact settleReports_noticed (shareFailed s) _ k

/-! ### Console commands -/

theorem postSecure_inv {r : EndReason} {ch : Channel} (h : ChannelInv ch) : ChannelInv (postSecure r ch) := by
  unfold postSecure; split <;> exact h

theorem judgeClearFault_inv {ch : Channel} (h : ChannelInv ch) : ChannelInv (judgeClearFault ch).ch := by
  unfold judgeClearFault
  split
  · next hs =>
    obtain ⟨hconverter, hsetpoint, hpairs, -, hpacer, -, -, -, hterms⟩ := h
    have hoff : regulates ch.state = false := by rw [hs.1]; rfl
    have hclear := hpairs (by simp [hs.1]) (by simp [hs.1])
    refine ⟨fun he => ?_, fun _ => hsetpoint hoff, fun _ _ => hclear, ⟨nofun, fun _ _ => rfl⟩, hpacer, ?_⟩
    · exact absurd (hconverter he).1 (by simp [hoff])
    · exact ⟨by simp, nofun, nofun, hterms⟩
  · exact h

theorem IsJudge.inv {arg : Word} {judge : State → Channel → Judged} (h : IsJudge arg judge) (t : State) {ch : Channel}
    (hc : ChannelInv ch) : ChannelInv (judge t ch).ch := by
  cases h
  case start => dsimp only; unfold judgeStart; split_ifs <;> exact hc
  case abort =>
    dsimp only; unfold judgeAbort
    split
    case h_1 | h_2 => split <;> exact hc
    case h_3 | h_4 | h_5 => exact postSecure_inv hc
    case h_6 | h_7 | h_8 => exact hc
  case forceStop =>
    dsimp only; unfold judgeForceStop
    split
    case h_1 | h_2 => split <;> exact hc
    all_goals exact hc
  case clearFault => exact judgeClearFault_inv hc
  case setHoldMode =>
    dsimp only; unfold judgeSetHoldMode
    split
    · exact hc
    · split <;> exact hc
  case nextStep => dsimp only; unfold judgeNextStep; split <;> exact hc

/-- A command to channels judges the reached ones and leaves the others (R145). -/
theorem onChannels_channel (judge : Channel → Judged) (target : Nat) (s : State) (k : Fin 4) :
    (onChannels judge target s).1.channels.get k =
      if k ∈ reached s.loader.settings target then (judge (s.channels.get k)).ch else s.channels.get k := by
  have happly := applyTo_channels judge (reached s.loader.settings target) s.channels (reached_nodup ..) k
  rw [← happly]
  unfold onChannels
  split
  · next h => rw [h]; rfl
  · rfl

/-- An action on the part leaves a disabled channel and keeps the invariant of every channel. -/
theorem IsAction.channel {f : ConsoleFrame} {act : State → State × Result} (h : IsAction f act) (s : State) (k : Fin 4)
    (hc : ChannelInv (s.channels.get k)) : ChannelInv ((act s).1.channels.get k) ∧
      ((s.loader.settings.channels.get k).enable = false → (act s).1.channels.get k = s.channels.get k) := by
  cases h with
  | channels judge h =>
    dsimp only
    rw [onChannels_channel]
    split
    · next hk =>
      refine ⟨h.inv s hc, fun hoff => ?_⟩
      obtain ⟨hon, -⟩ := (mem_reached _ _ _).1 hk
      exact absurd hon (by simp [hoff])
    · exact ⟨hc, fun _ => rfl⟩
  | hold flag =>
    rw [actHold_touches]; exact ⟨hc, fun _ => rfl⟩
  | none => exact ⟨hc, fun _ => rfl⟩

/-! ### The programs of a profile -/

theorem stepAt_fits {img : List Byte} {pFrame len o : Nat} {st : Step} (h : stepAt img pFrame len o = some st) :
    st.d ≤ Config.captureTop := by
  unfold stepAt at h
  split at h
  · cases h
  · split at h
    · split at h
      · cases h
      · split at h
        · next hd =>
          obtain ⟨-, hd, -⟩ := hd
          obtain ⟨ts, -, rfl⟩ := Option.map_eq_some_iff.1 h
          exact hd
        · cases h
    · split at h
      · cases h; exact Nat.zero_le _
      · cases h

theorem stepsAt_fits {img : List Byte} {pFrame len o n : Nat} {steps : List Step}
    (h : stepsAt img pFrame len o n = some steps) : ∀ st ∈ steps, st.d ≤ Config.captureTop := by
  induction n generalizing o steps with
  | zero => cases h; exact fun _ h => absurd h List.not_mem_nil
  | succ n ih =>
    unfold stepsAt at h
    split at h
    · next s ss hs hss =>
      cases h
      intro st hst
      rcases List.mem_cons.1 hst with rfl | hst
      · exact stepAt_fits hs
      · exact ih hss st hst
    · cases h

theorem programsOf_fit (img : List Byte) : ProgramsFit (programsOf img) := by
  intro pr hpr
  obtain ⟨p, -, rfl⟩ := List.mem_map.1 hpr
  unfold programAt
  split
  · exact absent_fits
  · split
    · exact absent_fits
    · next steps hs =>
      split
      · next hl => exact ⟨stepsAt_fits hs, hl⟩
      · exact absent_fits

/-! ### Every event -/

/-- With the loader unchanged, the invariant is a matter of each channel. -/
theorem ChannelsInv.of_each {s t : State} (h : ChannelsInv s) (hl : t.loader = s.loader)
    (hc : ∀ k, ChannelInv (s.channels.get k) → ChannelInv (t.channels.get k))
    (hr : ∀ k, Rests s k → RestsIdle (s.channels.get k) → RestsIdle (t.channels.get k)) : ChannelsInv t := by
  obtain ⟨hprog, hch⟩ := h
  refine ⟨by rw [hl]; exact hprog, fun k => ⟨hc k (hch k).1, fun hrest => ?_⟩⟩
  have hrest : Rests s k := by unfold Rests at hrest ⊢; rwa [hl] at hrest
  exact hr k hrest ((hch k).2 hrest)

theorem ChannelsInv.congr {s t : State} (h : ChannelsInv s) (hl : t.loader = s.loader) (hc : t.channels = s.channels) :
    ChannelsInv t :=
  h.of_each hl (fun k hk => by rw [hc]; exact hk) (fun k _ hk => by rw [hc]; exact hk)

theorem periodState_channelsInv (inp : PeriodInput) {s : State} (h : ChannelsInv s) : ChannelsInv (periodState s inp) := by
  have hprog := h.1
  refine h.of_each (periodState_loader s inp) (fun k hk => ?_) (fun k hrest hk => ?_)
  · cases hr : isReady s
    · rw [periodState_channels_rest s inp hr]; exact hk
    · rw [periodState_channel s inp hr]
      unfold channelOut
      split
      · exact channelPeriod_inv hprog hk
      · exact hk
  · cases hr : isReady s
    · rw [periodState_channels_rest s inp hr]; exact hk
    · rw [periodState_channel s inp hr]
      have hoff : (s.loader.settings.channels.get k).enable = false :=
        hrest.resolve_left fun hn => hn ((isReady_iff s).1 hr)
      rw [(channelOut_disabled s inp k hoff).1]; exact hk

theorem takeConsole_channelsInv {f : ConsoleFrame} {act : State → State × Result} (h : IsAction f act) (c : Command)
    (arr : Arrival) {s : State} (hs : ChannelsInv s) : ChannelsInv (takeConsole c f arr act s) := by
  obtain ⟨-, -, hloader, -⟩ := takeConsole_keeps h c arr s
  refine hs.of_each hloader (fun k hk => ?_) (fun k hrest hk => ?_)
  · unfold takeConsole; split
    · dsimp only
      split
      · exact (h.channel (advanceTo s arr.now) k hk).1
      · exact hk
    · exact hk
  · unfold takeConsole; split
    · next hr =>
      dsimp only
      have hoff : (s.loader.settings.channels.get k).enable = false :=
        hrest.resolve_left fun hn => hn ((isReady_iff s).1 hr)
      split
      · show RestsIdle ((act (advanceTo s arr.now)).1.channels.get k)
        rw [(h.channel (advanceTo s arr.now) k (hs.2 k).1).2 hoff]; exact hk
      · exact hk
    · exact hk

theorem enterReady_channelsInv (img : List Byte) {s : State} (h : ChannelsInv s) (hn : ¬ Ready s) :
    ChannelsInv (enterReady s img) := by
  obtain ⟨-, hch⟩ := h
  refine ⟨programsOf_fit img, fun k => ?_⟩
  obtain ⟨hinv, hrests⟩ := hch k
  unfold enterReady; dsimp only
  rw [Quad.get_tab]
  exact ⟨hinv, fun _ => hrests (.inl hn)⟩

theorem Event.channelsInv {s t : State} (h : Event s t) (hs : ChannelsInv s) : ChannelsInv t := by
  cases h with
  | idle => exact hs
  | reset => exact channelsInv_reset
  | header header =>
    unfold readHeader; split
    · next hl =>
      split
      · exact hs
      · exact ⟨hs.1, fun k => ⟨(hs.2 k).1, fun _ => (hs.2 k).2 (.inl (by simp [hl.1]))⟩⟩
    · exact hs
  | image rest =>
    unfold readComplete; dsimp only; split
    · next hl =>
      split
      · exact enterReady_channelsInv _ hs (by simp [hl.1])
      · exact ⟨hs.1, fun k => ⟨(hs.2 k).1, fun _ => (hs.2 k).2 (.inl (by simp [hl.1]))⟩⟩
    · exact hs
  | period inp => exact periodState_channelsInv inp hs
  | link h =>
    obtain ⟨-, hloader, -⟩ := h.frame
    exact hs.of_each hloader (fun k => (h.noticed k).inv) (fun k _ => (h.noticed k).rests)
  | console c f arr act h => exact takeConsole_channelsInv h c arr hs
  | writer => rw [takeEntry_touches]; exact hs.congr rfl rfl
  | words writing ws =>
    obtain ⟨-, -, hloader, -, -, -, -, -, -, -, hchannels, -⟩ := portWords_frame writing ws s
    exact hs.congr hloader hchannels
  | move h => rw [h.touches]; exact hs.congr rfl rfl

/-- Settles O58: every event keeps the channel invariant. -/
theorem channelsKeptByEveryStep : Obligations.ChannelsKeptByEveryStep := by
  unfold Obligations.ChannelsKeptByEveryStep
  intro s t hs h
  exact step_keeps (fun _ _ h => h) (fun _ _ he => he.channelsInv) h hs

end Sys2Proof.Machine
end

section
/-! PROOFS. The result buffer and the logger port: what closing a half and placing words do to the RAM, what the entry writer makes of
an entry (R157 to R160), and the port's commands word by word (R161 to R165). -/

namespace Sys2Proof.Machine

/-! ### Closing and writing a half -/

theorem halfState_setHalf_same (b : Buffer) (h : Nat) (x : HalfState) : halfState (setHalf b h x) h = x := by
  unfold halfState setHalf; split <;> rfl

theorem halfState_setHalf_other {h h' : Nat} (hne : (h = 0) ≠ (h' = 0)) (b : Buffer) (x : HalfState) :
    halfState (setHalf b h x) h' = halfState b h' := by
  unfold halfState setHalf
  by_cases h0 : h = 0 <;> by_cases h1 : h' = 0 <;> simp_all

/-- The two halves are told apart by whether their number is 0. -/
theorem half_ne_other {h : Nat} (hle : h ≤ 1) : (h = 0) ≠ (1 - h = 0) := by
  simp only [ne_eq, eq_iff_iff]; omega

/-- The buffer with its OPEN half `h` filled and FULL, before the other half is looked at. -/
def filledHalf (h : Nat) (b : Buffer) : Buffer :=
  setHalf { b with ram := ramFill (halfBase h + b.writePos) (halfBase h + Config.halfWords) b.ram, writePos := 0, ready := true }
    h .full

theorem filledHalf_other {h : Nat} (hle : h ≤ 1) (b : Buffer) : halfState (filledHalf h b) (1 - h) = halfState b (1 - h) :=
  halfState_setHalf_other (half_ne_other hle) _ _

theorem closeHalf_of_free {h : Nat} {b : Buffer} (hle : h ≤ 1) (hf : halfState b (1 - h) = .free) :
    closeHalf h b = setHalf (filledHalf h b) (1 - h) .opened :=
  if_pos (show halfState (filledHalf h b) (1 - h) = .free by rw [filledHalf_other hle, hf])

theorem closeHalf_of_not_free {h : Nat} {b : Buffer} (hle : h ≤ 1) (hf : halfState b (1 - h) ≠ .free) :
    closeHalf h b = { filledHalf h b with lockout := true } :=
  if_neg (show ¬ halfState (filledHalf h b) (1 - h) = .free by rw [filledHalf_other hle]; exact hf)

@[simp] theorem setHalf_ram (b : Buffer) (h : Nat) (x : HalfState) : (setHalf b h x).ram = b.ram := by
  unfold setHalf; split <;> rfl
@[simp] theorem setHalf_writePos (b : Buffer) (h : Nat) (x : HalfState) : (setHalf b h x).writePos = b.writePos := by
  unfold setHalf; split <;> rfl
@[simp] theorem setHalf_lockout (b : Buffer) (h : Nat) (x : HalfState) : (setHalf b h x).lockout = b.lockout := by
  unfold setHalf; split <;> rfl
@[simp] theorem setHalf_ready (b : Buffer) (h : Nat) (x : HalfState) : (setHalf b h x).ready = b.ready := by
  unfold setHalf; split <;> rfl

/-- The filled half reads FILL words from the write position to its end. -/
theorem filledHalf_reads (h : Nat) (b : Buffer) (a : Nat) :
    ramRead a (filledHalf h b).ram = if baseOf h + b.writePos ≤ a ∧ a < baseOf h + 4096 then 0 else ramRead a b.ram := by
  unfold filledHalf
  rw [setHalf_ram]
  exact ramRead_fill _ _ _ _

theorem closeHalf_closed {h : Nat} {b : Buffer} (hle : h ≤ 1) : Closed h b (closeHalf h b) := by
  have hfull : halfState (filledHalf h b) h = .full := halfState_setHalf_same _ _ _
  by_cases hf : halfState b (1 - h) = .free
  · rw [closeHalf_of_free hle hf]
    refine ⟨fun a => ?reads, ?full, ?position, ?ready, fun _ => ⟨halfState_setHalf_same _ _ _, ?lockout⟩, fun hn => absurd hf hn⟩
    case reads => rw [setHalf_ram]; exact filledHalf_reads h b a
    case full => rw [halfState_setHalf_other (Ne.symm (half_ne_other hle)), hfull]
    all_goals simp [filledHalf]
  · rw [closeHalf_of_not_free hle hf]
    refine ⟨filledHalf_reads h b, hfull, ?_, ?_, fun hx => absurd hx hf, fun _ => ⟨filledHalf_other hle b, rfl⟩⟩
    all_goals simp [filledHalf]

/-- Where one half is OPEN and the other is not, the OPEN half is that one. -/
theorem openHalf_of {h : Nat} {b : Buffer} (hle : h ≤ 1) (ho : halfState b h = .opened) (hn : halfState b (1 - h) ≠ .opened) :
    openHalf b = some h := by
  obtain rfl | rfl : h = 0 ∨ h = 1 := by omega
  all_goals simp_all [openHalf, halfState]

theorem openHalf_closeHalf_of_free {h : Nat} {b : Buffer} (hle : h ≤ 1) (hf : halfState b (1 - h) = .free) :
    openHalf (closeHalf h b) = some (1 - h) := by
  obtain ⟨-, hfull, -, -, hopen, -⟩ := closeHalf_closed (b := b) hle
  refine openHalf_of (by omega) (hopen hf).1 ?_
  rw [show 1 - (1 - h) = h by omega, hfull]
  exact nofun

theorem openHalf_closeHalf_of_not_free {h : Nat} {b : Buffer} (hle : h ≤ 1) (hf : halfState b (1 - h) ≠ .free)
    (hn : halfState b (1 - h) ≠ .opened) : openHalf (closeHalf h b) = none := by
  obtain ⟨-, hfull, -, -, -, hlock⟩ := closeHalf_closed (b := b) hle
  have hother := (hlock hf).1
  rw [openHalf_none]
  obtain rfl | rfl : h = 0 ∨ h = 1 := by omega
  all_goals simp_all [halfState]

/-- Beside an OPEN half the other is not OPEN. -/
theorem BufferInv.other_not_open {b : Buffer} (hb : BufferInv b) {h : Nat} (ho : openHalf b = some h) :
    halfState b (1 - h) ≠ .opened := by
  obtain ⟨-, hone, -⟩ := hb
  have hstate := openHalf_state ho
  obtain rfl | rfl : h = 0 ∨ h = 1 := by have := openHalf_le ho; omega
  all_goals simp_all [halfState]

/-! ### Placing words (R158) -/

theorem place_behind {ws : List Word} {b : Buffer} {h : Nat} (ho : openHalf b = some h)
    (hroom : b.writePos + ws.length ≤ 4096) : place ws b = (putWords h ws b, true) :=
  place_fits ho (by simp only [Config.halfWords]; omega)

theorem place_opens {ws : List Word} {b : Buffer} {h : Nat} (hb : BufferInv b) (ho : openHalf b = some h)
    (hroom : 4096 < b.writePos + ws.length) (hf : halfState b (1 - h) = .free) :
    place ws b = (putWords (1 - h) ws (closeHalf h b), true) := by
  obtain ⟨-, -, -, hpos, -⟩ := hb
  have hfull : ¬ ws.length ≤ Config.halfWords - b.writePos := by simp only [Config.halfWords] at hpos ⊢; omega
  unfold place
  simp [ho, fits, hfull, openHalf_closeHalf_of_free (openHalf_le ho) hf]

theorem place_locks {ws : List Word} {b : Buffer} {h : Nat} (hb : BufferInv b) (ho : openHalf b = some h)
    (hroom : 4096 < b.writePos + ws.length) (hf : halfState b (1 - h) ≠ .free) :
    place ws b = (closeHalf h b, false) := by
  have hother := hb.other_not_open ho
  obtain ⟨-, -, -, hpos, -⟩ := hb
  have hfull : ¬ ws.length ≤ Config.halfWords - b.writePos := by simp only [Config.halfWords] at hpos ⊢; omega
  unfold place
  simp [ho, fits, hfull, openHalf_closeHalf_of_not_free (openHalf_le ho) hf hother]

theorem ramWrite_append (u v : List Word) (a : Nat) (ram : List RamCell) :
    ramWrite a (u ++ v) ram = ramWrite (a + u.length) v (ramWrite a u ram) := by
  induction u generalizing a ram with
  | nil => rfl
  | cons w u ih =>
    rw [List.cons_append, ramWrite, ih, ramWrite, List.length_cons, show a + 1 + u.length = a + (u.length + 1) by omega]

theorem putWords_putWords (h : Nat) (u v : List Word) (b : Buffer) :
    putWords h v (putWords h u b) = putWords h (u ++ v) b := by
  unfold putWords
  simp only [ramWrite_append, List.length_append, Nat.add_assoc]

/-- Words written behind the write position are read there, and every other word is left. -/
theorem putWords_stored {h : Nat} {ws : List Word} {b : Buffer} (hle : h ≤ 1) (hwf : Memory.wf b.ram = true)
    (hf : b.writePos + ws.length ≤ 4096) : Stored (baseOf h + b.writePos) ws b.ram (putWords h ws b).ram := by
  intro a
  refine ramRead_write _ _ _ _ ?_ hwf
  simp only [Config.ramWords, halfBase, Config.halfWords]; omega

@[simp] theorem putWords_halfState (h : Nat) (ws : List Word) (b : Buffer) (h' : Nat) :
    halfState (putWords h ws b) h' = halfState b h' := rfl
@[simp] theorem putWords_writePos (h : Nat) (ws : List Word) (b : Buffer) :
    (putWords h ws b).writePos = b.writePos + ws.length := rfl
@[simp] theorem putWords_openHalf (h : Nat) (ws : List Word) (b : Buffer) : openHalf (putWords h ws b) = openHalf b := rfl

theorem closeHalf_wf {h : Nat} {b : Buffer} (hb : BufferInv b) (ho : openHalf b = some h) :
    Memory.wf (closeHalf h b).ram = true := (closeHalf_inv hb ho).1

/-! ### The GAP entry and an entry of a queue (R158 to R160) -/

theorem writeGap_written {s : State} {b : Buffer} (hp : place (entryWords (gapEntry s.tick s.capture)) s.buffer = (b, true)) :
    writeGap s = ((s.setBuffer b).setCapture (clearSkips s.capture), true) := by
  unfold writeGap; rw [hp]; rfl

theorem writeGap_locked {s : State} {b : Buffer} (hp : place (entryWords (gapEntry s.tick s.capture)) s.buffer = (b, false)) :
    writeGap s = (s.setBuffer b, false) := by
  unfold writeGap; rw [hp]; rfl

theorem writeEntry_written {q : QueueName} {e : Entry} {s : State} {b : Buffer} (hp : place (entryWords e) s.buffer = (b, true)) :
    writeEntry q e s = s.setBuffer b := by
  unfold writeEntry; rw [hp]; rfl

theorem writeEntry_locked {q : QueueName} {e : Entry} {s : State} {b : Buffer} (hp : place (entryWords e) s.buffer = (b, false)) :
    writeEntry q e s = (s.setBuffer b).setCapture (countSkip q s.capture) := by
  unfold writeEntry; rw [hp]; rfl

/-- A queue whose head has left keeps its skip count. -/
theorem popQueue_skips (q n : QueueName) (c : Capture) : (queueOf (popQueue q c) n).skips = (queueOf c n).skips := by
  unfold popQueue setQueue queueOf
  cases q with
  | station => cases n <;> rfl
  | channel k =>
    cases n with
    | station => rfl
    | channel j =>
      dsimp only
      by_cases hj : j = k
      · rw [hj, Quad.get_set_self]
      · rw [Quad.get_set_ne _ _ _ _ hj]

theorem gapEntry_eq (tick : BitVec 32) (c : Capture) :
    gapEntry tick c = .gap tick (queueOf c (.channel 0)).skips (queueOf c (.channel 1)).skips (queueOf c (.channel 2)).skips
      (queueOf c (.channel 3)).skips (queueOf c .station).skips := rfl

theorem skipSum_eq (c : Capture) :
    skipSum c = (queueOf c (.channel 0)).skips + (queueOf c (.channel 1)).skips + (queueOf c (.channel 2)).skips +
      (queueOf c (.channel 3)).skips + (queueOf c .station).skips := rfl

@[simp] theorem gapEntry_popQueue (q : QueueName) (tick : BitVec 32) (c : Capture) :
    gapEntry tick (popQueue q c) = gapEntry tick c := by
  simp only [gapEntry_eq, popQueue_skips]

@[simp] theorem skipSum_popQueue (q : QueueName) (c : Capture) : skipSum (popQueue q c) = skipSum c := by
  simp only [skipSum_eq, popQueue_skips]

/-! ### The entry writer -/

/-- The state in which the writer writes: the entry has left its queue. -/
abbrev popped (q : QueueName) (s : State) : State := s.setCapture (popQueue q s.capture)

theorem takeEntry_of_next {s : State} {q : QueueName} {e : Entry} (hd : s.port.deferred = false)
    (hn : nextQueue s.capture = some (q, e)) : takeEntry s = writeTaken q e (popped q s) := by
  unfold takeEntry; simp [hd, hn]

theorem takeEntry_of_none {s : State} (hd : s.port.deferred = false) (hn : nextQueue s.capture = none) : takeEntry s = s := by
  unfold takeEntry; simp [hd, hn]

theorem writeTaken_lockout {q : QueueName} {e : Entry} {s : State} (hl : s.buffer.lockout = true) :
    writeTaken q e s = s.setCapture (countSkip q s.capture) := if_pos hl

theorem writeTaken_plain {q : QueueName} {e : Entry} {s : State} (hl : s.buffer.lockout = false) (hz : skipSum s.capture = 0) :
    writeTaken q e s = writeEntry q e s := by
  unfold writeTaken; simp [hl, hz]

theorem writeTaken_behind_gap {q : QueueName} {e : Entry} {s t : State} (hl : s.buffer.lockout = false)
    (hz : skipSum s.capture ≠ 0) (hg : writeGap s = (t, true)) : writeTaken q e s = writeEntry q e t := by
  unfold writeTaken; simp [hl, hz, hg]

theorem writeTaken_gap_locked {q : QueueName} {e : Entry} {s t : State} (hl : s.buffer.lockout = false)
    (hz : skipSum s.capture ≠ 0) (hg : writeGap s = (t, false)) : writeTaken q e s = t.setCapture (countSkip q t.capture) := by
  unfold writeTaken; simp [hl, hz, hg]

theorem BufferInv.no_lockout {b : Buffer} (hb : BufferInv b) {h : Nat} (ho : openHalf b = some h) : b.lockout = false := by
  obtain ⟨-, -, hlock, -⟩ := hb
  refine Bool.eq_false_iff.2 fun hl => ?_
  rw [(openHalf_none b).2 (hlock.1 hl)] at ho
  cases ho

section writer
variable {s : State} {q : QueueName} {e : Entry} {h : Nat}

/-- An entry without a GAP: it fits, opens the other half, or begins lockout. -/
theorem writeTaken_without_gap (hb : BufferInv s.buffer) (ho : openHalf s.buffer = some h) (hz : skipSum s.capture = 0) :
    let t := writeTaken q e (popped q s)
    (s.buffer.writePos + (entryWords e).length ≤ 4096 →
      t.capture = popQueue q s.capture ∧ t.buffer = putWords h (entryWords e) s.buffer) ∧
    (4096 < s.buffer.writePos + (entryWords e).length → halfState s.buffer (1 - h) = .free →
      t.capture = popQueue q s.capture ∧ t.buffer = putWords (1 - h) (entryWords e) (closeHalf h s.buffer)) ∧
    (4096 < s.buffer.writePos + (entryWords e).length → halfState s.buffer (1 - h) ≠ .free →
      t.capture = countSkip q (popQueue q s.capture) ∧ t.buffer = closeHalf h s.buffer) := by
  intro t
  have ht : t = writeEntry q e (popped q s) := writeTaken_plain (hb.no_lockout ho) (by rw [← hz]; exact skipSum_popQueue _ _)
  rw [ht]
  refine ⟨fun hf => ?fits, fun hf hfree => ?opens, fun hf hfree => ?locks⟩
  case fits =>
    rw [writeEntry_written (s := popped q s) (place_behind ho hf)]
    exact ⟨rfl, rfl⟩
  case opens =>
    rw [writeEntry_written (s := popped q s) (place_opens hb ho hf hfree)]
    exact ⟨rfl, rfl⟩
  case locks =>
    rw [writeEntry_locked (s := popped q s) (place_locks hb ho hf hfree)]
    exact ⟨rfl, rfl⟩

/-- An entry behind a GAP: both fit, the entry alone does not, or the GAP does not. -/
theorem writeTaken_with_gap (hb : BufferInv s.buffer) (ho : openHalf s.buffer = some h) (hz : skipSum s.capture ≠ 0) :
    let t := writeTaken q e (popped q s)
    let gap := entryWords (gapEntry s.tick s.capture)
    (s.buffer.writePos + 8 + (entryWords e).length ≤ 4096 →
      t.capture = clearSkips (popQueue q s.capture) ∧ t.buffer = putWords h (gap ++ entryWords e) s.buffer) ∧
    (s.buffer.writePos + 8 ≤ 4096 → 4096 < s.buffer.writePos + 8 + (entryWords e).length → halfState s.buffer (1 - h) = .free →
      t.capture = clearSkips (popQueue q s.capture) ∧
      t.buffer = putWords (1 - h) (entryWords e) (closeHalf h (putWords h gap s.buffer))) ∧
    (s.buffer.writePos + 8 ≤ 4096 → 4096 < s.buffer.writePos + 8 + (entryWords e).length → halfState s.buffer (1 - h) ≠ .free →
      t.capture = countSkip q (clearSkips (popQueue q s.capture)) ∧ t.buffer = closeHalf h (putWords h gap s.buffer)) ∧
    (4096 < s.buffer.writePos + 8 → halfState s.buffer (1 - h) = .free →
      t.capture = clearSkips (popQueue q s.capture) ∧
      t.buffer = putWords (1 - h) (gap ++ entryWords e) (closeHalf h s.buffer)) ∧
    (4096 < s.buffer.writePos + 8 → halfState s.buffer (1 - h) ≠ .free →
      t.capture = countSkip q (popQueue q s.capture) ∧ t.buffer = closeHalf h s.buffer) := by
  intro t gap
  have hgap : gap.length = 8 := rfl
  have hsame : entryWords (gapEntry (popped q s).tick (popped q s).capture) = gap := by simp [gap]
  have hsum : skipSum (popped q s).capture ≠ 0 := by rw [State.setCapture_capture, skipSum_popQueue]; exact hz
  have hlock : (popped q s).buffer.lockout = false := hb.no_lockout ho
  have hle := openHalf_le ho
  have hshort := (entryWords_length e).2
  -- The GAP fits into the OPEN half.
  have hfirst : s.buffer.writePos + 8 ≤ 4096 →
      t = writeEntry q e (((popped q s).setBuffer (putWords h gap s.buffer)).setCapture (clearSkips (popQueue q s.capture))) :=
    fun hf => writeTaken_behind_gap hlock hsum
      (writeGap_written (by rw [hsame]; exact place_behind ho hf))
  have hinv : s.buffer.writePos + 8 ≤ 4096 → BufferInv (putWords h gap s.buffer) := fun hf => putWords_inv hb ho hf
  refine ⟨fun hf => ?both, fun hg hf hfree => ?opens, fun hg hf hfree => ?locks, fun hg hfree => ?gapOpens, fun hg hfree => ?gapLocks⟩
  case both =>
    rw [hfirst (by omega)]
    rw [writeEntry_written (place_behind (b := putWords h gap s.buffer) ho (by
      show s.buffer.writePos + gap.length + _ ≤ 4096; omega)), putWords_putWords]
    exact ⟨rfl, rfl⟩
  case opens =>
    rw [hfirst hg]
    rw [writeEntry_written (place_opens (b := putWords h gap s.buffer) (hinv hg) ho (by
      show 4096 < s.buffer.writePos + gap.length + _; omega) hfree)]
    exact ⟨rfl, rfl⟩
  case locks =>
    rw [hfirst hg]
    rw [writeEntry_locked (place_locks (b := putWords h gap s.buffer) (hinv hg) ho (by
      show 4096 < s.buffer.writePos + gap.length + _; omega) hfree)]
    exact ⟨rfl, rfl⟩
  case gapOpens =>
    have ht : t = writeEntry q e (((popped q s).setBuffer (putWords (1 - h) gap (closeHalf h s.buffer))).setCapture
        (clearSkips (popQueue q s.capture))) := writeTaken_behind_gap hlock hsum (writeGap_written (s := popped q s) (by
      rw [hsame]; exact place_opens (b := s.buffer) hb ho (by omega) hfree))
    have hput : place (entryWords e) (putWords (1 - h) gap (closeHalf h s.buffer)) =
        (putWords (1 - h) (gap ++ entryWords e) (closeHalf h s.buffer), true) := by
      rw [← putWords_putWords]
      refine place_behind ((putWords_openHalf _ _ _).trans (openHalf_closeHalf_of_free hle hfree)) ?_
      rw [putWords_writePos, closeHalf_writePos, hgap]
      omega
    rw [ht, writeEntry_written (s := ((popped q s).setBuffer (putWords (1 - h) gap (closeHalf h s.buffer))).setCapture
      (clearSkips (popQueue q s.capture))) hput]
    exact ⟨rfl, rfl⟩
  case gapLocks =>
    have ht : t = ((popped q s).setBuffer (closeHalf h s.buffer)).setCapture (countSkip q (popQueue q s.capture)) :=
      writeTaken_gap_locked hlock hsum (writeGap_locked (s := popped q s) (by
      rw [hsame]; exact place_locks (b := s.buffer) hb ho (by omega) hfree))
    rw [ht]
    exact ⟨rfl, rfl⟩

end writer

theorem putWords_upto {b : Buffer} {ws : List Word} {n : Nat} (hn : b.writePos + ws.length = n) (h : Nat) :
    putWords h ws b = { b with ram := (putWords h ws b).ram, writePos := n } := by
  rw [← hn]; rfl

/-- Words at the start of the half that a closing opened. -/
theorem putWords_opened {h : Nat} {ws : List Word} {b : Buffer} (hb : BufferInv b) (ho : openHalf b = some h)
    (hshort : ws.length ≤ 4096) :
    ∃ c, Closed h b c ∧ putWords (1 - h) ws (closeHalf h b) =
        { c with ram := (putWords (1 - h) ws (closeHalf h b)).ram, writePos := ws.length } ∧
      Stored (baseOf (1 - h)) ws c.ram (putWords (1 - h) ws (closeHalf h b)).ram := by
  have hpos := closeHalf_writePos h b
  refine ⟨closeHalf h b, closeHalf_closed (openHalf_le ho), putWords_upto (by rw [hpos, Nat.zero_add]) _, ?_⟩
  · have hstored := putWords_stored (h := 1 - h) (ws := ws) (b := closeHalf h b) (by omega) (closeHalf_wf hb ho)
      (by rw [hpos, Nat.zero_add]; exact hshort)
    rw [hpos, Nat.add_zero] at hstored
    exact hstored

/-- Settles O49: the writer skips in lockout; else the entry is placed, behind a GAP where one is due, and each placement is one of
the three of R158. -/
theorem writerTakesAnEntry : Obligations.WriterTakesAnEntry := by
  unfold Obligations.WriterTakesAnEntry
  refine ⟨fun s hd hn => congrArg Host.Outcome.next (takeEntry_of_none hd hn), fun s q e hb hd hn => ?_⟩
  have ht := takeEntry_of_next hd hn
  have hshort := (entryWords_length e).2
  have hport : (takeEntry s).port = s.port := by rw [takeEntry_touches]; rfl
  refine ⟨takeEntry s, rfl, takeEntry_frame s, hport, fun hl => ?lockout, fun h ho hz => ?plain, fun h ho hz => ?gap⟩
  case lockout =>
    rw [ht, writeTaken_lockout (s := popped q s) hl]
    exact ⟨rfl, rfl⟩
  case plain =>
    have hle := openHalf_le ho
    obtain ⟨hfits, hopens, hlocks⟩ := writeTaken_without_gap (q := q) (e := e) hb ho hz
    rw [ht]
    refine ⟨fun hf => ?_, fun hf hfree => ?_, fun hf hfree => ?_⟩
    · obtain ⟨hc, hbuf⟩ := hfits hf
      rw [hbuf]
      exact ⟨hc, rfl, putWords_stored hle hb.1 hf⟩
    · obtain ⟨hc, hbuf⟩ := hopens hf hfree
      rw [hbuf]
      exact ⟨hc, putWords_opened hb ho (by omega)⟩
    · obtain ⟨hc, hbuf⟩ := hlocks hf hfree
      rw [hbuf]
      exact ⟨closeHalf_closed hle, hc⟩
  case gap =>
    have hle := openHalf_le ho
    obtain ⟨hboth, hopens, hlocks, hgapOpens, hgapLocks⟩ := writeTaken_with_gap (q := q) (e := e) hb ho hz
    have hgap : (entryWords (gapEntry s.tick s.capture)).length = 8 := gapWords_length _ _
    rw [ht]
    refine ⟨fun hf => ?_, fun hg hf => ⟨putWords h (entryWords (gapEntry s.tick s.capture)) s.buffer, rfl,
      putWords_stored hle hb.1 hg, fun hfree => ?_, fun hfree => ?_⟩, fun hg hfree => ?_, fun hg hfree => ?_⟩
    · obtain ⟨hc, hbuf⟩ := hboth hf
      rw [hbuf]
      have hlen : (entryWords (gapEntry s.tick s.capture) ++ entryWords e).length = 8 + (entryWords e).length := by
        rw [List.length_append, hgap]
      exact ⟨hc, putWords_upto (by omega) h, putWords_stored hle hb.1 (by omega)⟩
    · obtain ⟨hc, hbuf⟩ := hopens hg hf hfree
      rw [hbuf]
      exact ⟨hc, putWords_opened (putWords_inv hb ho hg) ho (by omega)⟩
    · obtain ⟨hc, hbuf⟩ := hlocks hg hf hfree
      rw [hbuf]
      exact ⟨closeHalf_closed hle, hc⟩
    · obtain ⟨hc, hbuf⟩ := hgapOpens hg hfree
      rw [hbuf]
      have hlen : (entryWords (gapEntry s.tick s.capture) ++ entryWords e).length = 8 + (entryWords e).length := by
        rw [List.length_append, hgap]
      have hput := putWords_opened (ws := entryWords (gapEntry s.tick s.capture) ++ entryWords e) hb ho (by omega)
      rw [hlen] at hput
      exact ⟨hc, hput⟩
    · obtain ⟨hc, hbuf⟩ := hgapLocks hg hfree
      rw [hbuf]
      exact ⟨closeHalf_closed hle, hc⟩

end Sys2Proof.Machine
end

section
/-! PROOFS. The commands of the logger port: READ, RELEASE, FLUSH, words and time-outs (R161 to R165). -/

namespace Sys2Proof.Machine

/-! ### READ (R163) -/

theorem exec_read_of_idle {s : State} (hidle : PortIdle s) (h o n : Word) :
    exec (.read [h, o, n]) s = .next (doRead h o n (waitWords [2, h, o] s)) :=
  congrArg Host.Outcome.next (portWords_read h o n s hidle)

/-- Settles O51: the guard of READ is the list of its ranges, and READ_WORD reads at the stream's address. -/
theorem readStreamsAFullHalf : Obligations.ReadStreamsAFullHalf := by
  unfold Obligations.ReadStreamsAFullHalf
  refine ⟨fun h o n s hidle => ?read, fun a l s hs ha => ?word, fun a l s hs ha => ?outside⟩
  case read =>
    have hguard : (h.toNat ≤ 1 ∧ o.toNat ≤ 4095 ∧ 1 ≤ n.toNat ∧ n.toNat ≤ 4096 ∧ o.toNat + n.toNat ≤ 4096 ∧
        halfState s.buffer h.toNat = .full) ↔ (h.toNat ≤ 1 ∧ o.toNat < Config.halfWords ∧ 1 ≤ n.toNat ∧
        o.toNat + n.toNat ≤ Config.halfWords ∧ halfState s.buffer h.toNat = .full) := by
      simp only [Config.halfWords]
      constructor
      · rintro ⟨hh, ho, hn, -, hsum, hfull⟩
        exact ⟨hh, by omega, hn, hsum, hfull⟩
      · rintro ⟨hh, ho, hn, hsum, hfull⟩
        exact ⟨hh, by omega, hn, by omega, hsum, hfull⟩
    refine ⟨_, exec_read_of_idle hidle h o n, ?_⟩
    by_cases hg : (h.toNat ≤ 1 ∧ o.toNat ≤ 4095 ∧ 1 ≤ n.toNat ∧ n.toNat ≤ 4096 ∧ o.toNat + n.toNat ≤ 4096 ∧
        halfState s.buffer h.toNat = .full)
    · have hread : doRead h o n (waitWords [2, h, o] s) =
          (waitWords [2, h, o] s).setPort ⟨[], true, [0], some ⟨baseOf h.toNat + o.toNat, n.toNat⟩, false⟩ := if_pos (hguard.1 hg)
      rw [hread]
      exact ⟨.refl s, rfl, rfl, fun _ => rfl, fun hn => absurd hg hn⟩
    · have hread : doRead h o n (waitWords [2, h, o] s) = answerWith [answerError] (waitWords [2, h, o] s) :=
        if_neg fun hx => hg (hguard.2 hx)
      rw [hread]
      exact ⟨.refl s, rfl, rfl, fun hx => absurd hx hg, fun _ => rfl⟩
  case word =>
    refine ⟨s.setPort { s.port with
        answer := s.port.answer ++ [ramRead a s.buffer.ram]
        stream := if l ≤ 1 then none else some ⟨a + 1, l - 1⟩ }, ?_, PortFrame.refl s, rfl, rfl, rfl⟩
    show execReadWord s = _
    unfold execReadWord
    rw [hs]
    exact if_pos ha
  case outside =>
    show execReadWord s = _
    unfold execReadWord
    rw [hs]
    exact if_neg (Nat.not_lt.2 ha)

/-! ### RELEASE and FLUSH (R164, R165) -/

theorem exec_release_of_idle {s : State} (hidle : PortIdle s) (h : Word) :
    exec (.release [h]) s = .next (doRelease h (waitWords [3] s)) :=
  congrArg Host.Outcome.next (portWords_release h s hidle)

theorem exec_flush_of_idle {s : State} (hidle : PortIdle s) (writing : Bool) :
    exec (.flush writing) s =
      .next (if writing then s.setPort { s.port with partialWords := [], deferred := true } else doFlush s) :=
  congrArg Host.Outcome.next (portWords_flush writing s hidle)

/-- A released half is not FULL after it, so READY shows the other half alone. -/
theorem readyLevel_of_not_full {b : Buffer} {h : Nat} (hle : h ≤ 1) (hn : halfState b h ≠ .full) :
    readyLevel b = decide (halfState b (1 - h) = .full) := by
  obtain rfl | rfl : h = 0 ∨ h = 1 := by omega
  all_goals simp_all [readyLevel, halfState]

section release
variable {b : Buffer} {h : Nat}

theorem reopened_state (h : Nat) (b : Buffer) : halfState (reopened h b) h = .opened :=
  halfState_setHalf_same b h .opened

theorem reopened_other (hle : h ≤ 1) (b : Buffer) : halfState (reopened h b) (1 - h) = halfState b (1 - h) :=
  halfState_setHalf_other (half_ne_other hle) b .opened

theorem freed_state (h : Nat) (b : Buffer) : halfState (freed h b) h = .free := halfState_setHalf_same b h .free

theorem freed_other (hle : h ≤ 1) (b : Buffer) : halfState (freed h b) (1 - h) = halfState b (1 - h) :=
  halfState_setHalf_other (half_ne_other hle) b .free

theorem reopened_ready (hle : h ≤ 1) (b : Buffer) : (reopened h b).ready = decide (halfState b (1 - h) = .full) := by
  rw [← reopened_other hle]
  exact readyLevel_of_not_full hle (fun hx => HalfState.noConfusion ((reopened_state h b).symm.trans hx))

theorem freed_ready (hle : h ≤ 1) (b : Buffer) : (freed h b).ready = decide (halfState b (1 - h) = .full) := by
  rw [← freed_other hle]
  exact readyLevel_of_not_full hle (fun hx => HalfState.noConfusion ((freed_state h b).symm.trans hx))

theorem freed_rest (h : Nat) (b : Buffer) :
    (freed h b).ram = b.ram ∧ (freed h b).writePos = b.writePos ∧ (freed h b).lockout = b.lockout := by
  simp [freed]

theorem reopened_rest (h : Nat) (b : Buffer) :
    (reopened h b).ram = b.ram ∧ (reopened h b).writePos = 0 ∧ (reopened h b).lockout = false := by
  simp [reopened]

/-- In lockout the GAP goes to the start of the half that the release opens. -/
theorem place_reopened (hb : BufferInv b) (hl : b.lockout = true) (hle : h ≤ 1) {ws : List Word} (hshort : ws.length ≤ 4096) :
    place ws (reopened h b) = (putWords h ws (reopened h b), true) := by
  obtain ⟨-, -, hlock, -⟩ := hb
  obtain ⟨h0, h1⟩ := hlock.1 hl
  obtain ⟨-, hpos, -⟩ := reopened_rest h b
  have hother : halfState (reopened h b) (1 - h) ≠ .opened := by
    rw [reopened_other hle]
    unfold halfState; split
    · exact h0
    · exact h1
  refine place_behind (openHalf_of hle (reopened_state h b) hother) ?_
  rw [hpos, Nat.zero_add]
  exact hshort

end release

/-- The answer of a FLUSH that is taken: refused in lockout, EMPTY at write position 0, else the OPEN half is closed. -/
theorem doFlush_answer {s : State} (hb : BufferInv s.buffer) : FlushAnswer s (doFlush s) := by
  refine ⟨?frame, ?capture, fun hl => ?refused, fun h ho hz => ?empty, fun h ho hpos => ?closed⟩
  case frame => exact PortMove.flush.frame
  case capture =>
    unfold doFlush; split
    · rfl
    · split <;> rfl
  case refused =>
    obtain ⟨-, -, hlock, -⟩ := hb
    have hnone := (openHalf_none _).2 (hlock.1 hl)
    unfold doFlush; simp only [hnone]
    exact ⟨rfl, rfl⟩
  case empty =>
    unfold doFlush; simp only [ho, hz, if_true]
    exact ⟨rfl, rfl⟩
  case closed =>
    unfold doFlush; simp only [ho, if_neg (Nat.pos_iff_ne_zero.1 hpos)]
    exact ⟨closeHalf_closed (openHalf_le ho), rfl⟩

/-- Settles O52: RELEASE by its three outcomes, FLUSH and DEFERRED_FLUSH by `doFlush_answer`. -/
theorem releaseAndFlush : Obligations.ReleaseAndFlush := by
  unfold Obligations.ReleaseAndFlush
  refine ⟨fun h s hidle hb => ?release, fun s hb hidle => ⟨_, exec_flush_of_idle hidle false, doFlush_answer hb⟩,
    fun s hidle => exec_flush_of_idle hidle true, fun s hb hd => ⟨doFlush s, ?deferred, doFlush_answer hb⟩⟩
  case release =>
    refine ⟨_, exec_release_of_idle hidle h, (PortMove.release (s := waitWords [3] s) h).frame, ?_, ?_⟩
    · intro hn
      rw [doRelease_refused (s := waitWords [3] s) hn]
      exact ⟨rfl, rfl, rfl⟩
    · rintro ⟨hle, hfull⟩
      cases hl : s.buffer.lockout
      · rw [doRelease_free (s := waitWords [3] s) hle hfull hl]
        obtain ⟨hram, hpos, hlock⟩ := freed_rest h.toNat s.buffer
        exact ⟨rfl, freed_other hle _, freed_ready hle _, hlock.trans hl,
          fun _ => ⟨freed_state _ _, hram, hpos, rfl⟩, nofun⟩
      · have hgap : (entryWords (gapEntry s.tick s.capture)).length = 8 := gapWords_length _ _
        obtain ⟨hram, hpos, hlock⟩ := reopened_rest h.toNat s.buffer
        have hplace := place_reopened (ws := entryWords (gapEntry s.tick s.capture)) hb hl hle (by omega)
        rw [doRelease_lockout (s := waitWords [3] s) hle hfull hl,
          writeGap_written (s := (waitWords [3] s).setBuffer (reopened h.toNat (waitWords [3] s).buffer)) hplace]
        have hstored := putWords_stored (ws := entryWords (gapEntry s.tick s.capture)) (b := reopened h.toNat s.buffer) hle
          (by rw [hram]; exact hb.1) (by rw [hpos]; omega)
        rw [hpos, Nat.add_zero, hram] at hstored
        refine ⟨rfl, reopened_other hle _, reopened_ready hle _, hlock, nofun, fun _ =>
          ⟨reopened_state _ _, ?_, hstored, rfl⟩⟩
        show (reopened h.toNat s.buffer).writePos + 8 = 8
        rw [hpos]
  case deferred => exact congrArg Host.Outcome.next (if_pos hd)

/-! ### Words and time-outs (R161) -/

/-- The port takes words: neither an answer nor a FLUSH is under way. -/
abbrev PortListens (s : State) : Prop := s.port.answering = false ∧ s.port.deferred = false

theorem portWord_listens (writing : Bool) {s : State} (h : PortListens s) (w : Word) :
    portWord writing s w = commandWords writing (s.port.partialWords ++ [w]) s := by
  unfold portWord; simp [h.1, h.2]

theorem portWords_cons (writing : Bool) (w : Word) (ws : List Word) (s : State) :
    portWords writing (w :: ws) s = portWords writing ws (portWord writing s w) := rfl

@[simp] theorem waitWords_waitWords (u v : List Word) (s : State) : waitWords v (waitWords u s) = waitWords v s := rfl

/-- The words of a READ up to its second argument are held. -/
theorem portWords_read_held {s : State} (hidle : PortIdle s) {ws : List Word} (hlen : ws.length < 3) :
    portWords false (2 :: ws) s = waitWords (2 :: ws) s := by
  obtain ⟨ha, hd, hp⟩ := hidle
  have hfirst : portWord false s 2 = waitWords [2] s := portWord_idle false s 2 ⟨ha, hd, hp⟩
  have hnext : ∀ held w, commandWords false (held ++ [w]) (waitWords held s) = waitWords (held ++ [w]) s →
      portWord false (waitWords held s) w = waitWords (held ++ [w]) s := fun held w hc =>
    (portWord_listens false (s := waitWords held s) ⟨ha, hd⟩ w).trans hc
  rw [portWords_cons, hfirst]
  match ws, hlen with
  | [], _ => rfl
  | [a], _ => rw [portWords_cons, hnext [2] a rfl]; rfl
  | [a, b], _ => rw [portWords_cons, hnext [2] a rfl, portWords_cons, hnext ([2] ++ [a]) b rfl]; rfl

/-- Settles O54: each word by the state of the port that it meets. -/
theorem portWordsAndTimeouts : Obligations.PortWordsAndTimeouts := by
  unfold Obligations.PortWordsAndTimeouts
  refine ⟨fun w s hidle hw => ?unknown, fun s => rfl, fun s ha hs => ?lastByte, fun ws s hidle hlen => ?read,
    fun s hidle => ?release, fun s ha hd hp => ?mixed, fun ws w b s hbusy => ?busy⟩
  case unknown =>
    simp only [not_or] at hw
    obtain ⟨h1, h2, h3, h4⟩ := hw
    have hcode : commandCodeWord w = false := by
      simpa [commandCodeWord, and_assoc] using ⟨h1, h2, h3, h4⟩
    show Host.Outcome.next (if commandCodeWord w then s else portWord false s w) = _
    rw [hcode, if_neg Bool.false_ne_true, portWord_idle _ _ _ hidle]
    unfold commandWords
    simp only [h1, h2, h3, h4, if_false, or_self]
    rfl
  case lastByte =>
    show Host.Outcome.next (if s.port.answering && s.port.stream.isNone then _ else _) = _
    rw [ha, hs]
    rfl
  case read => exact congrArg Host.Outcome.next (portWords_read_held hidle hlen)
  case release => exact congrArg Host.Outcome.next (portWord_idle false s 3 hidle)
  case mixed =>
    refine congrArg Host.Outcome.next ((portWord_listens false ⟨ha, hd⟩ 1).trans ?_)
    rw [hp]
    rfl
  case busy =>
    refine ⟨?_, ?_, ?_, ?_, ?_⟩
    case refine_5 =>
      show Host.Outcome.next (if commandCodeWord w then s else portWord false s w) = _
      rw [portWord_busy _ _ _ hbusy, ite_self]
    all_goals exact congrArg Host.Outcome.next (portWords_busy _ _ s hbusy)

end Sys2Proof.Machine
end

section
/-! PROOFS. Frames and console commands: the bytes of a frame read back as it (R4, R171), what has no effect, which CONSOLE frames are
taken (R144), and what the nine commands do (R145 to R150). -/

namespace Sys2Proof.Machine

/-! ### The bytes of a frame -/

theorem frameRow_of_check {bytes : List Byte} (h : frameChecks bytes = false) (arr : Arrival) :
    frameRow bytes arr = some (.frameCheckFailed bytes) := by
  unfold frameRow; rw [h]; rfl

@[simp] theorem commandOf_commandCode (c : Command) : commandOf ((commandCode c).zeroExtend 8) = some c := by
  cases c <;> decide

theorem frameRow_markBytes (f : MarkFrame) (arr : Arrival) : frameRow (markBytes f) arr = some (.markReceived f arr) := by
  have hcheck : frameChecks (markBytes f) = true := frameChecks_withCrc _ _ rfl
  unfold frameRow
  rw [if_pos hcheck]
  show some (Instr.markReceived ⟨f.station, f.round, word2 (hiByte f.digest) (loByte f.digest)⟩ arr) = _
  rw [word2_bytes]

theorem frameRow_shareBytes (f : ShareFrame) (arr : Arrival) : frameRow (shareBytes f) arr = some (.shareReceived f arr) := by
  have hcheck : frameChecks (shareBytes f) = true := frameChecks_withCrc _ _ rfl
  unfold frameRow
  rw [if_pos hcheck]
  show some (Instr.shareReceived ⟨f.station, f.round, f.member, word2 (hiByte f.digest) (loByte f.digest),
    mapByte f.map 5 ++ mapByte f.map 4 ++ mapByte f.map 3 ++ mapByte f.map 2 ++ mapByte f.map 1 ++ mapByte f.map 0,
    ⟨blockOf (hiByte f.blocks.c0.demand) (loByte f.blocks.c0.demand) (f.blocks.c0.cls ++ f.blocks.c0.state),
      blockOf (hiByte f.blocks.c1.demand) (loByte f.blocks.c1.demand) (f.blocks.c1.cls ++ f.blocks.c1.state),
      blockOf (hiByte f.blocks.c2.demand) (loByte f.blocks.c2.demand) (f.blocks.c2.cls ++ f.blocks.c2.state),
      blockOf (hiByte f.blocks.c3.demand) (loByte f.blocks.c3.demand) (f.blocks.c3.cls ++ f.blocks.c3.state)⟩,
    word2 (hiByte f.last) (loByte f.last)⟩ arr) = _
  simp only [word2_bytes, blockOf_bytes, map_bytes]

theorem frameRow_consoleBytes (c : Command) (f : ConsoleFrame) (arr : Arrival) :
    frameRow (consoleBytes c f) arr = some (consoleRow c f arr) := by
  have hcheck : frameChecks (consoleBytes c f) = true := frameChecks_withCrc _ _ rfl
  unfold frameRow
  rw [if_pos hcheck]
  show (commandOf ((commandCode c).zeroExtend 8)).map
    (fun c => consoleRow c ⟨f.console, f.station, f.channel, word2 (hiByte f.arg) (loByte f.arg)⟩ arr) = _
  rw [commandOf_commandCode, word2_bytes]
  rfl

/-- Settles O45: the check passes on a body with its CRC, and each field is put together again from its bytes. -/
theorem framesRoundTrip : Obligations.FramesRoundTrip :=
  ⟨frameRow_markBytes, frameRow_shareBytes, frameRow_consoleBytes⟩

/-! ### Frames that fail the check -/

theorem frameChecks_unknown {k : Byte} (h : kindLength k = none) (rest : List Byte) : frameChecks (k :: rest) = false := by
  unfold frameChecks; simp only [h]

theorem frameChecks_length {k : Byte} {n : Nat} (h : kindLength k = some n) {rest : List Byte}
    (hlen : (k :: rest).length ≠ n) : frameChecks (k :: rest) = false := by
  unfold frameChecks; simp only [h, hlen, decide_false, Bool.false_and]

/-- Bytes that do not end with the CRC of what precedes it fail, whatever their kind. -/
theorem frameChecks_crc {k : Byte} {rest : List Byte}
    (h : (k :: rest).drop ((k :: rest).length - 2) ≠ [hiByte (crc16 ((k :: rest).take ((k :: rest).length - 2))),
      loByte (crc16 ((k :: rest).take ((k :: rest).length - 2)))]) : frameChecks (k :: rest) = false := by
  cases hk : kindLength k with
  | none => exact frameChecks_unknown hk rest
  | some n =>
    by_cases hlen : (k :: rest).length = n
    · unfold frameChecks
      simp only [hk, ← hlen, h, decide_false, Bool.and_false]
    · exact frameChecks_length hk hlen

theorem kindLength_none {k : Byte} (h : k ≠ 0x31 ∧ k ≠ 0x32 ∧ k ≠ 0x33) : kindLength k = none := by
  obtain ⟨h1, h2, h3⟩ := h
  unfold kindLength kindMark kindShare kindConsole
  rw [if_neg h1, if_neg h2, if_neg h3]

/-! ### Which CONSOLE frames are taken (R144) -/

theorem modeOfArg_isSome (arg : Word) : (modeOfArg arg).isSome = true ↔ arg.toNat ≤ 2 := by
  have hn : ∀ n : Nat, n < 65536 → (arg = BitVec.ofNat 16 n ↔ arg.toNat = n) := fun n hlt => by
    rw [← BitVec.toNat_inj, BitVec.toNat_ofNat, Nat.mod_eq_of_lt hlt]
  have h0 := hn 0 (by decide)
  have h1 := hn 1 (by decide)
  have h2 := hn 2 (by decide)
  unfold modeOfArg
  split
  · next h => simp [h0.1 h]
  · next hz =>
    split
    · next h => simp [h1.1 h]
    · next ho =>
      split
      · next h => simp [h2.1 h]
      · next ht =>
        have hz' := mt h0.2 hz
        have ho' := mt h1.2 ho
        have ht' := mt h2.2 ht
        simp; omega

theorem modeOfArg_eq {arg : Word} (h : arg.toNat ≤ 2) :
    modeOfArg arg = some (if arg = 0 then .pass else if arg = 1 then .freeze else .restart) := by
  have hsome := (modeOfArg_isSome arg).2 h
  unfold modeOfArg at hsome ⊢
  split
  · rfl
  · split
    · rfl
    · next h0 h1 =>
      rw [if_neg h0, if_neg h1] at hsome
      split at hsome
      · next h2 => rw [if_pos h2]
      · cases hsome

/-- The decoder's test is the table of R144, made when the frame's check completes. -/
theorem consoleTaken_iff (c : Command) (s : State) (f : ConsoleFrame) (arr : Arrival) :
    consoleTaken c (advanceTo s arr.now) f arr = true ↔ ConsolePasses c s f arr := by
  unfold consoleTaken
  rw [Bool.and_eq_true, Bool.and_eq_true, Bool.and_eq_true, Bool.or_eq_true]
  simp only [Bool.or_eq_true, decide_eq_true_eq, modeOfArg_isSome, and_assoc]
  have himp : (c ≠ .setHoldMode ∨ f.arg.toNat ≤ 2) ↔ (c = .setHoldMode → f.arg.toNat ≤ 2) := by
    rw [ne_eq, imp_iff_not_or]
  rw [himp]
  exact Iff.rfl

section taken
variable {c : Command} {f : ConsoleFrame} {arr : Arrival} {s : State}

theorem takeConsole_of_taken (h : Taken c s f arr) (act : State → State × Result) :
    takeConsole c f arr act s = record c f (act (advanceTo s arr.now)).2 (act (advanceTo s arr.now)).1 := by
  unfold takeConsole
  rw [if_pos ((isReady_iff s).2 h.1)]
  exact if_pos ((consoleTaken_iff c s f arr).2 h.2)

theorem takeConsole_not_taken (hr : Ready s) (h : ¬ ConsolePasses c s f arr) (act : State → State × Result) :
    takeConsole c f arr act s = advanceTo s arr.now := by
  unfold takeConsole
  rw [if_pos ((isReady_iff s).2 hr)]
  exact if_neg (mt (consoleTaken_iff c s f arr).1 h)

theorem takeConsole_of_not_ready (hr : ¬ Ready s) (act : State → State × Result) : takeConsole c f arr act s = s :=
  if_neg (mt (isReady_iff s).1 hr)

end taken

/-- Every command's row is its action on a frame that is taken. -/
theorem exec_consoleRow (c : Command) (f : ConsoleFrame) (arr : Arrival) :
    ∃ act, IsAction f act ∧ ∀ s, exec (consoleRow c f arr) s = .next (takeConsole c f arr act s) := by
  cases c with
  | none => exact ⟨_, .none, fun s => rfl⟩
  | start => exact ⟨_, .channels _ .start, fun s => rfl⟩
  | abort => exact ⟨_, .channels _ .abort, fun s => rfl⟩
  | forceStop => exact ⟨_, .channels _ .forceStop, fun s => rfl⟩
  | hold => exact ⟨_, .hold true, fun s => rfl⟩
  | resume => exact ⟨_, .hold false, fun s => rfl⟩
  | clearFault => exact ⟨_, .channels _ .clearFault, fun s => rfl⟩
  | setHoldMode => exact ⟨_, .channels _ .setHoldMode, fun s => rfl⟩
  | nextStep => exact ⟨_, .channels _ .nextStep, fun s => rfl⟩

/-- Settles O44: a failed check by the part of R4 that fails, a CONSOLE frame not taken by `takeConsole`'s two tests. -/
theorem framesWithoutEffect : Obligations.FramesWithoutEffect := by
  unfold Obligations.FramesWithoutEffect
  refine ⟨fun bytes s => rfl, fun bytes arr h => frameRow_of_check ?check arr, fun c f arr s hr hp => ?refused,
    fun c f arr s hr => ?outside⟩
  case check =>
    rcases h with rfl | ⟨k, rest, rfl, hk | ⟨rfl, hlen⟩ | ⟨rfl, hlen⟩ | ⟨rfl, hlen⟩ | ⟨-, hcrc⟩⟩
    · rfl
    · exact frameChecks_unknown (kindLength_none hk) rest
    · exact frameChecks_length rfl hlen
    · exact frameChecks_length rfl hlen
    · exact frameChecks_length rfl hlen
    · exact frameChecks_crc hcrc
  case refused =>
    obtain ⟨act, -, hexec⟩ := exec_consoleRow c f arr
    rw [hexec, takeConsole_not_taken hr hp]
  case outside =>
    obtain ⟨act, -, hexec⟩ := exec_consoleRow c f arr
    rw [hexec, takeConsole_of_not_ready hr]

/-! ### Commands to channels (R145 to R149) -/

theorem reached_eq_targets (s : State) (f : ConsoleFrame) : reached s.loader.settings f.channel.toNat = targets s f := by
  unfold reached targets
  refine List.filter_congr fun k _ => ?_
  have h4 : f.channel.toNat = 4 ↔ f.channel = 4 := (BitVec.toNat_inj (y := 4)).symm.symm
  simp only [h4]

/-- A command's answer to the state it leaves: its channels, each judged by its own state, and the first refusal. -/
theorem applyTo_result (judge : Channel → Judged) {ks : List (Fin 4)} (hn : ks.Nodup) (chs : Quad Channel) :
    (applyTo judge ks chs).2 = firstRefusal (ks.map fun k => (judge (chs.get k)).result) := by
  induction ks generalizing chs with
  | nil => rfl
  | cons j ks ih =>
    obtain ⟨hj, hks⟩ := List.nodup_cons.1 hn
    have hsame : ks.map (fun k => (judge ((chs.set j (judge (chs.get j)).ch).get k)).result) =
        ks.map fun k => (judge (chs.get k)).result :=
      List.map_congr_left fun k hk => by
      rw [Quad.get_set_ne _ _ _ _ (fun hx : k = j => hj (hx ▸ hk))]
    unfold applyTo
    dsimp only
    rw [ih hks, hsame]
    unfold firstRefusal
    by_cases hr : (judge (chs.get j)).result = .accepted
    · simp [hr]
    · simp [hr]

/-- A command to channels whose judgement is a rule answers as `ChannelsAnswer` says. -/
theorem channelsAnswer_of_judge {c : Command} {f : ConsoleFrame} {arr : Arrival} {s : State} (h : Taken c s f arr)
    {judge : State → Channel → Judged} (hj : IsJudge f.arg judge) {rule : Channel → Channel × Result}
    (hrule : ∀ ch, rule ch = ((judge (advanceTo s arr.now) ch).ch, (judge (advanceTo s arr.now) ch).result)) :
    ChannelsAnswer c s (takeConsole c f arr (fun t => onChannels (judge t) f.channel.toNat t) s) f rule := by
  generalize hs' : advanceTo s arr.now = s' at hrule
  have hreach : reached s'.loader.settings f.channel.toNat = targets s f := by rw [← hs']; exact reached_eq_targets s f
  have hnodup : (targets s f).Nodup := by rw [← hreach]; exact reached_nodup _ _
  refine ⟨takeConsole_keeps (.channels judge hj) c arr s, ?_⟩
  rw [takeConsole_of_taken h, hs']
  have hon : onChannels (judge s') f.channel.toNat s' =
      (s'.setChannels (applyTo (judge s') (targets s f) s'.channels).1,
        if targets s f = [] then .refusedTarget else (applyTo (judge s') (targets s f) s'.channels).2) := by
    unfold onChannels
    rw [hreach]
    cases targets s f with
    | nil => rfl
    | cons k ks => rfl
  have hchs : s'.channels = s.channels := by rw [← hs']; rfl
  rw [hon, hchs]
  refine ⟨by rw [← hs']; rfl, by rw [← hs']; rfl, fun k => ?channel, ?record⟩
  case channel =>
    show (applyTo (judge s') (targets s f) s.channels).1.get k = _
    rw [applyTo_channels _ _ _ hnodup, hrule]
  case record =>
    show recordFor c f (if targets s f = [] then .refusedTarget else (applyTo (judge s') (targets s f) s.channels).2) = _
    rw [applyTo_result _ hnodup]
    simp only [hrule]

theorem startRule_eq (s : State) (arg : Word) (ch : Channel) :
    startRule s arg.toNat ch = ((judgeStart s arg ch).ch, (judgeStart s arg ch).result) := by
  have hrest : (!restsOpen ch || ch.runRequest) = true ↔ ¬ ((ch.state = .idle ∨ ch.state = .ended) ∧ ch.runRequest = false) := by
    cases hs : ch.state <;> cases hr : ch.runRequest <;> simp [restsOpen, hs]
  unfold startRule judgeStart
  split
  · rfl
  · split
    · rfl
    · simp only [hrest]
      split
      · rfl
      · split
        · rfl
        · next hp => rw [if_pos (not_not.1 hp)]

theorem abortRule_eq (ch : Channel) : abortRule ch = ((judgeAbort ch).ch, (judgeAbort ch).result) := by
  unfold abortRule judgeAbort postSecure
  cases hs : ch.state <;> cases hr : ch.runRequest <;> simp

theorem forceStopRule_eq (ch : Channel) : forceStopRule ch = ((judgeForceStop ch).ch, (judgeForceStop ch).result) := by
  unfold forceStopRule judgeForceStop
  cases hs : ch.state <;> cases hr : ch.runRequest <;> simp

theorem clearFaultRule_eq (ch : Channel) : clearFaultRule ch = ((judgeClearFault ch).ch, (judgeClearFault ch).result) := by
  unfold clearFaultRule judgeClearFault; split <;> rfl

theorem setHoldModeRule_eq {arg : Word} (h : arg.toNat ≤ 2) (ch : Channel) :
    setHoldModeRule (if arg = 0 then .pass else if arg = 1 then .freeze else .restart) ch =
      ((judgeSetHoldMode arg ch).ch, (judgeSetHoldMode arg ch).result) := by
  unfold setHoldModeRule judgeSetHoldMode
  rw [modeOfArg_eq h]
  split <;> rfl

theorem nextStepRule_eq (ch : Channel) : nextStepRule ch = ((judgeNextStep ch).ch, (judgeNextStep ch).result) := by
  unfold nextStepRule judgeNextStep; split <;> rfl

/-- Settles O47: each command is its judgement at the reached channels, and each judgement is its rule. -/
theorem commandsToChannels : Obligations.CommandsToChannels := by
  unfold Obligations.CommandsToChannels
  refine ⟨fun f arr s h => ⟨_, rfl, channelsAnswer_of_judge h .start (startRule_eq (advanceTo s arr.now) f.arg)⟩,
    fun f arr s h => ⟨_, rfl, channelsAnswer_of_judge h .abort abortRule_eq⟩,
    fun f arr s h => ⟨_, rfl, channelsAnswer_of_judge h .forceStop forceStopRule_eq⟩,
    fun f arr s h => ⟨_, rfl, channelsAnswer_of_judge h .clearFault clearFaultRule_eq⟩,
    fun f arr s h => ⟨_, rfl, channelsAnswer_of_judge h .setHoldMode (setHoldModeRule_eq ?argument)⟩,
    fun f arr s h => ⟨_, rfl, channelsAnswer_of_judge h .nextStep nextStepRule_eq⟩⟩
  case argument =>
    obtain ⟨-, -, -, -, harg⟩ := h
    exact harg rfl

/-! ### HOLD, RESUME and NONE (R145, R150) -/

theorem actHold_refused {flag : Bool} {f : ConsoleFrame} {s : State} (h : 4 < f.channel.toNat) :
    actHold flag f s = (s, .refusedTarget) := if_pos h

theorem actHold_same {flag : Bool} {f : ConsoleFrame} {s : State} (h : f.channel.toNat ≤ 4) (hf : s.console.hold = flag) :
    actHold flag f s = (s, .accepted) := by
  unfold actHold; rw [if_neg (Nat.not_lt.2 h), if_pos hf]

theorem actHold_changed {flag : Bool} {f : ConsoleFrame} {s : State} (h : f.channel.toNat ≤ 4) (hf : s.console.hold ≠ flag) :
    actHold flag f s = (offerStation (s.setConsole { s.console with hold := flag })
      [if flag then .holdOn f.console else .holdOff f.console], .accepted) := by
  unfold actHold; rw [if_neg (Nat.not_lt.2 h), if_neg hf]

/-- A taken HOLD or RESUME: the flag, the record, and an entry where the flag changes. -/
theorem takeConsole_hold {c : Command} {f : ConsoleFrame} {arr : Arrival} {s : State} (h : Taken c s f arr) (flag : Bool) :
    let t := takeConsole c f arr (actHold flag f) s
    t.channels = s.channels ∧
    (f.channel.toNat ≤ 4 → t.console = ⟨flag, recordFor c f .accepted⟩ ∧
      t.capture.station = if s.console.hold = flag then s.capture.station
        else offer s.capture.station (.station s.tick (if flag then .holdOn f.console else .holdOff f.console) s.timer.round)) ∧
    (4 < f.channel.toNat → t.console = ⟨s.console.hold, recordFor c f .refusedTarget⟩ ∧ t.capture = s.capture) := by
  dsimp only
  rw [takeConsole_of_taken h]
  rcases Nat.lt_or_ge 4 f.channel.toNat with hch | hch
  · rw [actHold_refused hch]
    exact ⟨rfl, fun hx => absurd hx (Nat.not_le.2 hch), fun _ => ⟨rfl, rfl⟩⟩
  · by_cases hf : s.console.hold = flag
    · rw [actHold_same (s := advanceTo s arr.now) hch hf, if_pos hf, ← hf]
      exact ⟨rfl, fun _ => ⟨rfl, rfl⟩, fun hx => absurd hch (Nat.not_le.2 hx)⟩
    · rw [actHold_changed (s := advanceTo s arr.now) hch hf, if_neg hf]
      exact ⟨rfl, fun _ => ⟨rfl, rfl⟩, fun hx => absurd hch (Nat.not_le.2 hx)⟩

/-- Settles O48: HOLD and RESUME by `takeConsole_hold`; NONE leaves its record alone. -/
theorem holdResumeAndNone : Obligations.HoldResumeAndNone := by
  unfold Obligations.HoldResumeAndNone
  refine ⟨fun f arr s h => ⟨_, rfl, takeConsole_keeps (.hold true) .hold arr s, takeConsole_hold h true⟩,
    fun f arr s h => ⟨_, rfl, takeConsole_keeps (.hold false) .resume arr s, ?resume⟩,
    fun f arr s h => ⟨_, rfl, takeConsole_keeps .none .none arr s, ?none⟩⟩
  case resume =>
    obtain ⟨hchannels, hin, hout⟩ := takeConsole_hold h false
    refine ⟨hchannels, fun hch => ?_, hout⟩
    obtain ⟨hconsole, hqueue⟩ := hin hch
    refine ⟨hconsole, hqueue.trans ?_⟩
    cases s.console.hold <;> rfl
  case none =>
    rw [takeConsole_of_taken h]
    refine ⟨rfl, rfl, ?_⟩
    show (⟨s.console.hold, recordFor .none f (if 4 < f.channel.toNat then .refusedTarget else .accepted)⟩ : Console) = _
    rcases Nat.lt_or_ge 4 f.channel.toNat with hch | hch
    · rw [if_pos hch, if_neg (Nat.not_le.2 hch)]
    · rw [if_neg (Nat.not_lt.2 hch), if_pos hch]

end Sys2Proof.Machine
end

section
/-! PROOFS. The profile: reading and checking the image (R166 to R168), the settings it holds (section 11.3), and which programs are
valid (R115, R116). -/

namespace Sys2Proof.Machine

/-! ### Reading the image (R166 to R168) -/

theorem lengthOk_iff (img : List Byte) : lengthOk img = true ↔ 253 ≤ profileLength img ∧ profileLength img ≤ 8192 := by
  unfold lengthOk within
  rw [Bool.and_eq_true, decide_eq_true_eq, decide_eq_true_eq]
  exact Iff.rfl

theorem readHeader_of_loading {header : List Byte} {s : State} (hl : s.loader.startup = .loading) (hi : s.loader.image = [])
    (hn : header.length = 6) :
    readHeader header s = s.setLoader { s.loader with
      startup := if 253 ≤ profileLength header ∧ profileLength header ≤ 8192 then .loading else .profileFault
      image := header } := by
  unfold readHeader
  rw [if_pos ⟨hl, hi, hn⟩]
  by_cases h : lengthOk header = true
  · rw [if_pos h, if_pos ((lengthOk_iff header).1 h), ← hl]
  · rw [if_neg h, if_neg (mt (lengthOk_iff header).2 h)]
    rfl

theorem readComplete_of_last {rest : List Byte} {s : State} (hl : s.loader.startup = .loading) (hi : s.loader.image.length = 6)
    (hn : (s.loader.image ++ rest).length = profileLength (s.loader.image ++ rest)) :
    readComplete rest s =
      if profileOk (s.loader.image ++ rest) then enterReady s (s.loader.image ++ rest)
      else enterProfileFault s (s.loader.image ++ rest) :=
  if_pos ⟨hl, hi, hn⟩

theorem enterReady_channel (s : State) (img : List Byte) (k : Fin 4) :
    (enterReady s img).channels.get k =
      { s.channels.get k with holdMode := ((enterReady s img).loader.settings.channels.get k).mode } :=
  Quad.get_tab _ k

/-- Settles O3: the guards of the two read events hold, and READY is entered as written. -/
theorem profileIsReadAndChecked : Obligations.ProfileIsReadAndChecked := by
  unfold Obligations.ProfileIsReadAndChecked
  refine ⟨fun header s hl hi hn => congrArg Host.Outcome.next (readHeader_of_loading hl hi hn), fun rest s hl hi hn =>
    ⟨fun hok => ?ready, fun hok => ?fault⟩⟩
  case ready =>
    refine ⟨enterReady s (s.loader.image ++ rest), congrArg Host.Outcome.next ?_, rfl, rfl, rfl, rfl, rfl, rfl, rfl, rfl,
      enterReady_channel s _, rfl, rfl, rfl, rfl, rfl, rfl, rfl, rfl, rfl, rfl, rfl, rfl⟩
    rw [readComplete_of_last hl hi hn, if_pos hok]
  case fault =>
    refine congrArg Host.Outcome.next ?_
    rw [readComplete_of_last hl hi hn, if_neg (by simp [hok])]
    rfl

/-! ### The numbers of the image -/

theorem img8_eq (img : List Byte) (o : Nat) : img8 img o = byteAt img o := rfl

theorem img16_eq (img : List Byte) (o : Nat) : img16 img o = wordAt img o := by
  unfold img16 wordAt; rw [Nat.mul_comm]; rfl

theorem img32_eq (img : List Byte) (o : Nat) : img32 img o = longAt img o := by
  unfold img32 longAt; rw [Nat.mul_comm, img16_eq, img16_eq]

theorem byteAt_lt (img : List Byte) (o : Nat) : byteAt img o < 256 := BitVec.isLt _

theorem wordAt_lt (img : List Byte) (o : Nat) : wordAt img o < 65536 := by
  have := byteAt_lt img o
  have := byteAt_lt img (o + 1)
  unfold wordAt; omega

theorem longAt_lt (img : List Byte) (o : Nat) : longAt img o < 4294967296 := by
  have := wordAt_lt img o
  have := wordAt_lt img (o + 2)
  unfold longAt; omega

theorem imgS16_eq (img : List Byte) (o : Nat) : imgS16 img o = signedAt img o := by
  have hlt := wordAt_lt img o
  unfold imgS16 signedAt
  rw [img16_eq, BitVec.toInt_eq_toNat_cond, BitVec.toNat_ofNat, Nat.mod_eq_of_lt hlt]
  split <;> split <;> omega

theorem imgS32_eq (img : List Byte) (o : Nat) : imgS32 img o = signedLongAt img o := by
  have hlt := longAt_lt img o
  unfold imgS32 signedLongAt
  rw [img32_eq, BitVec.toInt_eq_toNat_cond, BitVec.toNat_ofNat, Nat.mod_eq_of_lt hlt]
  split <;> split <;> omega

theorem within_iff (lo hi n : Nat) : within lo hi n = true ↔ lo ≤ n ∧ n ≤ hi := by
  unfold within; rw [Bool.and_eq_true, decide_eq_true_eq, decide_eq_true_eq]

theorem withinS_iff (lo hi n : Int) : withinS lo hi n = true ↔ lo ≤ n ∧ n ≤ hi := by
  unfold withinS; rw [Bool.and_eq_true, decide_eq_true_eq, decide_eq_true_eq]

/-! ### The settings and the five checks (R167) -/

theorem channelSettings_eq (img : List Byte) (k : Fin 4) :
    channelSettings img k = ⟨decide (byteAt img (10 + 10 * k.val) = 1),
      if byteAt img (11 + 10 * k.val) = 1 then .freeze else if byteAt img (11 + 10 * k.val) = 2 then .restart else .pass,
      wordAt img (12 + 10 * k.val), wordAt img (14 + 10 * k.val), wordAt img (16 + 10 * k.val),
      byteAt img (18 + 10 * k.val), byteAt img (19 + 10 * k.val)⟩ := by
  have ho : ∀ n, channelOffset k + n = (10 + n) + 10 * k.val := fun n => by unfold channelOffset; omega
  unfold channelSettings holdModeOf
  simp only [ho, img8_eq, img16_eq]
  rfl

theorem bandLimits_eq (img : List Byte) (b k : Fin 4) :
    bandLimits img b k = ⟨wordAt img (69 + 40 * b.val + 10 * k.val), wordAt img (71 + 40 * b.val + 10 * k.val),
      wordAt img (73 + 40 * b.val + 10 * k.val), wordAt img (75 + 40 * b.val + 10 * k.val),
      signedAt img (77 + 40 * b.val + 10 * k.val)⟩ := by
  have ho : ∀ n, limitsOffset b k + n = (69 + n) + 40 * b.val + 10 * k.val := fun n => by unfold limitsOffset; omega
  unfold bandLimits
  simp only [ho, img16_eq, imgS16_eq]
  rfl

theorem limitsOf_settingsOf (img : List Byte) (b k : Fin 4) : limitsOf (settingsOf img) b k = bandLimits img b k := by
  unfold limitsOf settingsOf; dsimp only
  rw [Quad.get_tab, Quad.get_tab]

theorem settingsRead_settingsOf (img : List Byte) : SettingsRead img (settingsOf img) := by
  refine ⟨rfl, rfl, img16_eq _ _, fun k => ?channel, rfl, img16_eq _ _, img16_eq _ _, img16_eq _ _, img16_eq _ _, rfl, rfl,
    imgS16_eq _ _, imgS16_eq _ _, imgS16_eq _ _, imgS16_eq _ _, fun b k => ?limits⟩
  case channel => exact (Quad.get_tab _ k).trans (channelSettings_eq img k)
  case limits => rw [limitsOf_settingsOf, bandLimits_eq]

theorem channelBlockOk_iff (img : List Byte) (k : Fin 4) : channelBlockOk img k = true ↔ ChannelBytesPass img k := by
  have ho : ∀ n, channelOffset k + n = (10 + n) + 10 * k.val := fun n => by unfold channelOffset; omega
  unfold channelBlockOk
  rw [channelSettings_eq]
  simp only [Bool.and_eq_true, within_iff, img8_eq, ho, Nat.zero_le, true_and, and_assoc, ChannelBytesPass]
  exact Iff.rfl

theorem stationBlockOk_iff (img : List Byte) : stationBlockOk img = true ↔
    (1 ≤ byteAt img 6 ∧ byteAt img 6 ≤ 48) ∧ byteAt img 7 ≤ 200 ∧ (2 ≤ wordAt img 8 ∧ wordAt img 8 ≤ 2000) ∧
      ∀ k : Fin 4, ChannelBytesPass img k := by
  obtain ⟨hst, ha, hp, -⟩ := settingsRead_settingsOf img
  unfold stationBlockOk
  rw [hst, ha, hp]
  simp only [Bool.and_eq_true, within_iff, channelBlockOk_iff, Nat.zero_le, true_and]
  constructor
  · rintro ⟨⟨⟨⟨⟨⟨hstation, hisl⟩, hframe⟩, h0⟩, h1⟩, h2⟩, h3⟩
    exact ⟨hstation, hisl, hframe, fun k => match k with | 0 => h0 | 1 => h1 | 2 => h2 | 3 => h3⟩
  · rintro ⟨hstation, hisl, hframe, hch⟩
    exact ⟨⟨⟨⟨⟨⟨hstation, hisl⟩, hframe⟩, hch 0⟩, hch 1⟩, hch 2⟩, hch 3⟩

theorem hallBlockOk_iff (img : List Byte) : hallBlockOk (settingsOf img) = true ↔
    (8 ≤ byteAt img 50 ∧ byteAt img 50 ≤ 40) ∧ (10 ≤ wordAt img 51 ∧ wordAt img 51 ≤ 2000) ∧
      wordAt img 57 ≤ 4000 ∧ byteAt img 59 ≤ 50 ∧ (5 ≤ byteAt img 60 ∧ byteAt img 60 ≤ 100) ∧
      wordAt img 57 ≤ wordAt img 53 ∧ wordAt img 57 ≤ wordAt img 55 := by
  obtain ⟨-, -, -, -, hr, hq, hli, hle, hg, hf, hw, -⟩ := settingsRead_settingsOf img
  unfold hallBlockOk
  rw [hr, hq, hli, hle, hg, hf, hw]
  simp only [Bool.and_eq_true, within_iff, decide_eq_true_eq, Nat.zero_le, true_and, and_assoc]

/-- Every band of every channel passes a test when each of the sixteen does. -/
theorem all_bands_iff (bands : Quad (Quad Limits)) (test : Limits → Bool) :
    (bands.toList.all fun b => b.toList.all test) = true ↔ ∀ b k : Fin 4, test ((bands.get b).get k) = true := by
  have hmem : ∀ {α : Type} (q : Quad α) (p : α → Bool), q.toList.all p = true ↔ ∀ k : Fin 4, p (q.get k) = true :=
    fun q p => by
      rw [List.all_eq_true]
      refine ⟨fun h k => h _ (by unfold Quad.toList; fin_cases k <;> simp [Quad.get]), fun h x hx => ?_⟩
      simp only [Quad.toList, List.mem_cons, List.not_mem_nil, or_false] at hx
      rcases hx with rfl | rfl | rfl | rfl
      · exact h 0
      · exact h 1
      · exact h 2
      · exact h 3
  rw [hmem]
  exact forall_congr' fun b => hmem _ _

theorem bandBlockOk_iff (img : List Byte) : bandBlockOk (settingsOf img) = true ↔
    -400 ≤ signedAt img 61 ∧ signedAt img 65 ≤ 1500 ∧ signedAt img 61 < signedAt img 63 ∧
      signedAt img 63 < signedAt img 65 ∧ 0 ≤ signedAt img 67 ∧ signedAt img 67 ≤ 1900 ∧
      ∀ b k : Fin 4, wordAt img (69 + 40 * b.val + 10 * k.val) ≤ 30000 ∧ wordAt img (71 + 40 * b.val + 10 * k.val) ≤ 30000 := by
  obtain ⟨-, -, -, -, -, -, -, -, -, -, -, h1, h2, h3, hh, hl⟩ := settingsRead_settingsOf img
  have hbands : ((settingsOf img).bands.toList.all fun b => b.toList.all limitsOk) = true ↔
      ∀ b k : Fin 4, wordAt img (69 + 40 * b.val + 10 * k.val) ≤ 30000 ∧ wordAt img (71 + 40 * b.val + 10 * k.val) ≤ 30000 := by
    rw [all_bands_iff]
    refine forall_congr' fun b => forall_congr' fun k => ?_
    show limitsOk (limitsOf (settingsOf img) b k) = true ↔ _
    rw [hl, limitsOk, Bool.and_eq_true, decide_eq_true_eq, decide_eq_true_eq]
    exact Iff.rfl
  unfold bandBlockOk
  rw [Bool.and_eq_true, hbands, h1, h2, h3, hh]
  simp only [Bool.and_eq_true, withinS_iff, decide_eq_true_eq]
  constructor
  · rintro ⟨⟨⟨⟨⟨⟨⟨a, b⟩, c, d⟩, e, f⟩, g⟩, i⟩, j, k⟩, l⟩
    exact ⟨a, f, g, i, j, k, l⟩
  · rintro ⟨a, f, g, i, j, k, l⟩
    exact ⟨⟨⟨⟨⟨⟨⟨a, by omega⟩, by omega, by omega⟩, by omega, f⟩, g⟩, i⟩, j, k⟩, l⟩

/-- Settles O46: each of the five checks is its line of R167, in the numbers of the image. -/
theorem profileChecksAndSettings : Obligations.ProfileChecksAndSettings := by
  unfold Obligations.ProfileChecksAndSettings
  refine fun img => ⟨?_, settingsRead_settingsOf img⟩
  have hlen : profileLength img = wordAt img 2 := img16_eq img 2
  have hheader : headerOk img = true ↔ wordAt img 0 = 0x0A31 ∧ 253 ≤ wordAt img 2 ∧ wordAt img 2 ≤ 8192 := by
    unfold headerOk
    rw [Bool.and_eq_true, lengthOk_iff, hlen, decide_eq_true_eq, img16_eq]
    exact Iff.rfl
  have hcrc : crcOk img = true ↔ (crc16 ((img.take (wordAt img 2)).drop 6)).toNat = wordAt img 4 := by
    unfold crcOk
    rw [decide_eq_true_eq, hlen, img16_eq]
    exact Iff.rfl
  unfold profileOk
  simp only [Bool.and_eq_true, hheader, hcrc, stationBlockOk_iff, hallBlockOk_iff, bandBlockOk_iff, and_assoc]

end Sys2Proof.Machine
end

section
/-! PROOFS. The step records of the profile decoded field by field (R115, R170), and the loop structure of a program (R116). -/

namespace Sys2Proof.Machine

/-! ### A record's kind -/

/-- Amplitude and base of a PULSE step do not have opposite signs. -/
theorem kindAt_of_read {img : List Byte} {pFrame o : Nat} {kind : StepKind} (h : KindRead img pFrame o kind) :
    kindAt img pFrame o = some kind := by
  unfold kindAt
  simp only [img8_eq, img16_eq, img32_eq, imgS16_eq]
  cases kind with
  | chargeCC i => obtain ⟨hk, rfl, hi⟩ := h; rw [hk]; exact if_pos hi
  | chargeCV v i => obtain ⟨hk, rfl, rfl, hi⟩ := h; rw [hk]; exact if_pos hi
  | dischargeCC i => obtain ⟨hk, rfl, hi⟩ := h; rw [hk]; exact if_pos hi
  | dischargeCP p => obtain ⟨hk, rfl, hp⟩ := h; rw [hk]; exact if_pos hp
  | rest => rw [show byteAt img o = 5 from h]; rfl
  | pulse a b n =>
    obtain ⟨hk, rfl, rfl, rfl, ha, hb, hn, hframe, hup, hdown⟩ := h
    rw [hk]
    refine if_pos ?_
    simp only [Bool.and_eq_true, withinS_iff, within_iff, Bool.not_eq_true', Bool.or_eq_false_iff, decide_eq_false_iff_not]
    exact ⟨⟨⟨⟨by omega, by omega⟩, by omega, by omega⟩, hn, by omega⟩, hup, hdown⟩
  | loop t m n => obtain ⟨hk, rfl, rfl, rfl⟩ := h; rw [hk]; rfl
  | finish => rw [show byteAt img o = 8 from h]; rfl

theorem read_of_kindAt {img : List Byte} {pFrame o : Nat} {kind : StepKind} (h : kindAt img pFrame o = some kind) :
    KindRead img pFrame o kind := by
  unfold kindAt at h
  simp only [img8_eq, img16_eq, img32_eq, imgS16_eq] at h
  split at h
  case h_1 hk => split at h <;> cases h; exact ⟨hk, rfl, ‹_›⟩
  case h_2 hk => split at h <;> cases h; exact ⟨hk, rfl, rfl, ‹_›⟩
  case h_3 hk => split at h <;> cases h; exact ⟨hk, rfl, ‹_›⟩
  case h_4 hk => split at h <;> cases h; exact ⟨hk, rfl, ‹_›⟩
  case h_5 hk => cases h; exact hk
  case h_6 hk =>
    split at h
    · next hc =>
      cases h
      simp only [Bool.and_eq_true, withinS_iff, within_iff, Bool.not_eq_true', Bool.or_eq_false_iff, decide_eq_false_iff_not] at hc
      obtain ⟨⟨⟨⟨ha, ha'⟩, hb, hb'⟩, hn, hframe⟩, hup, hdown⟩ := hc
      exact ⟨hk, rfl, rfl, rfl, by omega, by omega, hn, by omega, hup, hdown⟩
    · cases h
  case h_7 hk => cases h; exact ⟨hk, rfl, rfl, rfl⟩
  case h_8 hk => cases h; exact hk
  case h_9 => cases h

/-! ### A term -/

theorem quantityOf_eq_some (n : Nat) (q : Quantity) : quantityOf n = some q ↔ n = quantityCode q := by
  constructor
  · intro h
    unfold quantityOf at h
    split at h <;> cases h <;> rfl
  · rintro rfl
    cases q <;> rfl

theorem comparisonOf_eq_some (n : Nat) (ge : Bool) : comparisonOf n = some ge ↔ n = if ge = true then 1 else 2 := by
  unfold comparisonOf
  cases ge <;> by_cases h1 : n = 1 <;> by_cases h2 : n = 2 <;> simp_all

theorem captureOf_eq_some (n : Nat) (c : CaptureMode) :
    captureOf n = some c ↔ n = match c with | .off => 0 | .interval => 1 | .fraction => 2 := by
  constructor
  · intro h
    unfold captureOf at h
    split at h <;> cases h <;> rfl
  · rintro rfl
    cases c <;> rfl

/-- The bytes of a term's action, checked for a program of `len` steps. -/
def ActionRead (len code target : Nat) : Action → Prop
  | .next => code = 1
  | .goto x => code = 2 ∧ target = x ∧ x < len
  | .finish => code = 3

theorem actionOf_eq_some (len code target : Nat) (act : Action) :
    actionOf len code target = some act ↔ ActionRead len code target act := by
  unfold actionOf
  constructor
  · intro h
    split at h
    · next h1 => cases h; exact h1
    · split at h
      · next h2 =>
        split at h
        · next ht => cases h; exact ⟨h2, rfl, ht⟩
        · cases h
      · split at h
        · next h3 => cases h; exact h3
        · cases h
  · intro h
    cases act with
    | next => exact if_pos h
    | goto x => obtain ⟨rfl, rfl, ht⟩ := h; exact if_pos ht
    | finish => rw [show code = 3 from h]; rfl

theorem comparisonOk_iff (q : Quantity) (ge : Bool) :
    comparisonOk q ge = true ↔ (q = .currentMag → ge = false) ∧ (¬ Lasting q → ge = true) := by
  cases q <;> cases ge <;> simp [comparisonOk, Lasting]

theorem thresholdOk_iff (q : Quantity) (x : Int) :
    thresholdOk q x = true ↔ (if q = .temperature then (-400 : Int) else 0) ≤ x ∧ x ≤ thresholdTop q := by
  cases q <;> exact withinS_iff _ _ _

theorem termAt_eq_some (img : List Byte) (len o : Nat) (t : Term) : termAt img len o = some t ↔ TermRead img len o t := by
  have hact : ∀ act, ActionRead len (byteAt img (o + 2)) (byteAt img (o + 3)) act ↔
      match act with
      | .next => byteAt img (o + 2) = 1
      | .goto x => byteAt img (o + 2) = 2 ∧ byteAt img (o + 3) = x ∧ x < len
      | .finish => byteAt img (o + 2) = 3 := fun act => by cases act <;> exact Iff.rfl
  constructor
  · intro h
    unfold termAt at h
    split at h
    · next q ge act hq hc ha =>
      generalize hx : (if q = .temperature then imgS32 img (o + 4) else (img32 img (o + 4) : Int)) = x at h
      dsimp only at h
      split at h
      · next hok =>
        cases h
        rw [Bool.and_eq_true, comparisonOk_iff, thresholdOk_iff] at hok
        obtain ⟨⟨hmag, hlast⟩, hlo, hhi⟩ := hok
        rw [imgS32_eq, img32_eq] at hx
        exact ⟨(quantityOf_eq_some _ _).1 hq, (comparisonOf_eq_some _ _).1 hc, hmag, hlast, hx.symm, hlo, hhi,
          (hact act).1 ((actionOf_eq_some _ _ _ _).1 ha)⟩
      · cases h
    · cases h
  · obtain ⟨q, ge, x, act⟩ := t
    rintro ⟨hq, hc, hmag, hlast, hx, hlo, hhi, ha⟩
    unfold termAt
    simp only [img8_eq]
    rw [(quantityOf_eq_some _ q).2 hq, (comparisonOf_eq_some _ ge).2 hc,
      (actionOf_eq_some _ _ _ act).2 ((hact act).2 ha)]
    dsimp only at hx ⊢
    rw [imgS32_eq, img32_eq, ← hx]
    refine if_pos ?_
    rw [Bool.and_eq_true, comparisonOk_iff, thresholdOk_iff]
    exact ⟨⟨hmag, hlast⟩, hlo, hhi⟩

/-! ### Records in a row -/

/-- `n` records of `w` bytes each from an offset on, where every one is read. -/
def readRow {α : Type} (f : Nat → Option α) (w : Nat) : Nat → Nat → Option (List α)
  | _, 0 => some []
  | o, n + 1 =>
    match f o, readRow f w (o + w) n with
    | some x, some xs => some (x :: xs)
    | _, _ => none

theorem readRow_eq_some {α : Type} (f : Nat → Option α) (w : Nat) (n o : Nat) (xs : List α) :
    readRow f w o n = some xs ↔ xs.length = n ∧ ∀ (j : Nat) (x : α), xs[j]? = some x → f (o + w * j) = some x := by
  induction n generalizing o xs with
  | zero =>
    cases xs with
    | nil => simp [readRow]
    | cons x xs => simp [readRow]
  | succ n ih =>
    constructor
    · intro h
      unfold readRow at h
      split at h
      · next x ys hx hys =>
        cases h
        obtain ⟨hlen, hall⟩ := (ih _ _).1 hys
        refine ⟨by rw [List.length_cons, hlen], fun j y hy => ?_⟩
        cases j with
        | zero => cases hy; exact hx
        | succ j =>
          rw [show o + w * (j + 1) = o + w + w * j by ring]
          exact hall j y (by simpa using hy)
      · cases h
    · rintro ⟨hlen, hall⟩
      cases xs with
      | nil => simp at hlen
      | cons x ys =>
        have hx : f o = some x := hall 0 x rfl
        have hys : readRow f w (o + w) n = some ys := by
          refine (ih _ _).2 ⟨by simpa using hlen, fun j y hy => ?_⟩
          have hj := hall (j + 1) y (by simpa using hy)
          rwa [show o + w * (j + 1) = o + w + w * j by ring] at hj
        unfold readRow
        rw [hx, hys]

theorem termsAt_eq_readRow (img : List Byte) (len : Nat) (n o : Nat) :
    termsAt img len o n = readRow (termAt img len) 8 o n := by
  induction n generalizing o with
  | zero => rfl
  | succ n ih =>
    unfold termsAt readRow
    rw [ih]
    cases termAt img len o <;> cases readRow (termAt img len) 8 (o + 8) n <;> rfl

theorem stepsAt_eq_readRow (img : List Byte) (pFrame len : Nat) (n o : Nat) :
    stepsAt img pFrame len o n = readRow (stepAt img pFrame len) 38 o n := by
  induction n generalizing o with
  | zero => rfl
  | succ n ih =>
    unfold stepsAt readRow
    rw [ih]
    cases stepAt img pFrame len o <;> cases readRow (stepAt img pFrame len) 38 (o + 38) n <;> rfl

/-! ### A step -/

theorem stepAt_eq_some (img : List Byte) (pFrame len o : Nat) (st : Step) :
    stepAt img pFrame len o = some st ↔ StepRead img pFrame len o st := by
  constructor
  · intro h
    unfold stepAt at h
    split at h
    · cases h
    · next kind hk =>
      have hkind := read_of_kindAt hk
      split at h
      · next hw =>
        split at h
        · cases h
        · next cap hcap =>
          split at h
          · next hc =>
            obtain ⟨hcls, hd, hterms⟩ := hc
            rw [termsAt_eq_readRow] at h
            obtain ⟨ts, hts, rfl⟩ := Option.map_eq_some_iff.1 h
            obtain ⟨hlen, hall⟩ := (readRow_eq_some _ _ _ _ _).1 hts
            refine ⟨hkind, fun _ => ⟨rfl, hcls, (captureOf_eq_some _ _).1 hcap, img16_eq _ _, hd, hlen, ?_,
              fun j t ht => (termAt_eq_some _ _ _ _).1 (hall j t ht)⟩, fun hx => absurd (hw.symm.trans hx) (by decide)⟩
            show ts.length ≤ 3
            rw [hlen]; exact hterms
          · cases h
      · next hw =>
        split at h
        · next hz => cases h; exact ⟨hkind, fun hx => absurd hx hw, fun _ => ⟨hz, rfl, rfl, rfl, rfl⟩⟩
        · cases h
  · obtain ⟨kind, cls, cap, d, ts⟩ := st
    rintro ⟨hkind, hwork, hrest⟩
    unfold stepAt
    rw [kindAt_of_read hkind]
    simp only [img8_eq, img16_eq] at hwork hrest ⊢
    cases hw : kind.working with
    | true =>
      obtain ⟨hcls, hcls2, hcap, hd, hd2, hlen, hlen3, hall⟩ := hwork hw
      have hts : readRow (termAt img len) 8 (o + 14) (byteAt img (o + 13)) = some ts :=
        (readRow_eq_some _ _ _ _ _).2 ⟨hlen, fun j t ht => (termAt_eq_some _ _ _ _).2 (hall j t ht)⟩
      rw [if_pos rfl, (captureOf_eq_some _ cap).2 hcap]
      dsimp only
      rw [termsAt_eq_readRow, ← hcls, ← hd, if_pos ⟨hcls2, hd2, hlen ▸ hlen3⟩, hts]
      rfl
    | false =>
      obtain ⟨hz, rfl, rfl, rfl, rfl⟩ := hrest hw
      rw [if_neg Bool.false_ne_true]
      exact if_pos hz

/-! ### Loop structure (R116) -/

theorem loopRanges_loop {s : Step} {t n : Nat} {m : Bool} (h : s.kind = .loop t m n) (i : Nat) (r : List Step) :
    loopRanges i (s :: r) = (t, i) :: loopRanges (i + 1) r := by
  rw [loopRanges, h]

theorem loopRanges_other {s : Step} (h : ∀ t m n, s.kind ≠ .loop t m n) (i : Nat) (r : List Step) :
    loopRanges i (s :: r) = loopRanges (i + 1) r := by
  rw [loopRanges]
  split
  · next t m n hk => exact absurd hk (h t m n)
  · rfl

theorem mem_loopRanges (steps : List Step) (i t l : Nat) :
    (t, l) ∈ loopRanges i steps ↔ ∃ j, l = i + j ∧ LoopAt steps j t := by
  induction steps generalizing i with
  | nil => simp [loopRanges, LoopAt]
  | cons s r ih =>
    have hzero : LoopAt (s :: r) 0 t ↔ ∃ m n, s.kind = .loop t m n := by simp [LoopAt]
    have hsucc : ∀ j, LoopAt (s :: r) (j + 1) t ↔ LoopAt r j t := fun j => by simp [LoopAt]
    have htail : (t, l) ∈ loopRanges (i + 1) r ↔ ∃ j, l = i + (j + 1) ∧ LoopAt (s :: r) (j + 1) t := by
      rw [ih]
      exact exists_congr fun j => by rw [hsucc, show i + 1 + j = i + (j + 1) by omega]
    have hsplit : (∃ j, l = i + j ∧ LoopAt (s :: r) j t) ↔
        (l = i ∧ ∃ m n, s.kind = .loop t m n) ∨ (t, l) ∈ loopRanges (i + 1) r := by
      rw [htail, ← hzero]
      constructor
      · rintro ⟨j, hl, hj⟩
        cases j with
        | zero => exact .inl ⟨hl, hj⟩
        | succ j => exact .inr ⟨j, hl, hj⟩
      · rintro (⟨rfl, hj⟩ | ⟨j, hl, hj⟩)
        · exact ⟨0, rfl, hj⟩
        · exact ⟨j + 1, hl, hj⟩
    rw [hsplit]
    by_cases hloop : ∃ t' m n, s.kind = .loop t' m n
    · obtain ⟨t', m, n, hk⟩ := hloop
      rw [loopRanges_loop hk, List.mem_cons, Prod.mk.injEq, hk]
      refine or_congr_left ⟨?_, ?_⟩
      · rintro ⟨rfl, rfl⟩; exact ⟨rfl, m, n, rfl⟩
      · rintro ⟨rfl, m', n', hx⟩; cases hx; exact ⟨rfl, rfl⟩
    · rw [loopRanges_other fun t' m n hk => hloop ⟨t', m, n, hk⟩]
      refine ⟨.inr, fun h => h.resolve_left ?_⟩
      rintro ⟨-, m, n, hk⟩
      exact hloop ⟨t, m, n, hk⟩

theorem mem_loopRanges_zero (steps : List Step) (r : Nat × Nat) : r ∈ loopRanges 0 steps ↔ LoopAt steps r.2 r.1 := by
  obtain ⟨t, l⟩ := r
  rw [mem_loopRanges]
  constructor
  · rintro ⟨j, hl, hj⟩; rw [Nat.zero_add] at hl; exact hl ▸ hj
  · intro h; exact ⟨l, (Nat.zero_add l).symm, h⟩

/-- The ranges are listed in the order of their LOOP steps. -/
theorem loopRanges_pairwise (steps : List Step) (i : Nat) :
    (loopRanges i steps).Pairwise fun a b => a.2 < b.2 := by
  induction steps generalizing i with
  | nil => exact .nil
  | cons s r ih =>
    by_cases hloop : ∃ t m n, s.kind = .loop t m n
    · obtain ⟨t, m, n, hk⟩ := hloop
      rw [loopRanges_loop hk]
      refine List.pairwise_cons.2 ⟨fun b hb => ?_, ih _⟩
      obtain ⟨j, hj, -⟩ := (mem_loopRanges r (i + 1) b.1 b.2).1 hb
      show i < b.2
      omega
    · rw [loopRanges_other fun t m n hk => hloop ⟨t, m, n, hk⟩]
      exact ih _

theorem isLoopAt_iff (steps : List Step) (i : Nat) : isLoopAt steps i = true ↔ ∃ t, LoopAt steps i t := by
  unfold isLoopAt LoopAt
  cases hs : steps[i]? with
  | none => simp
  | some st =>
    obtain ⟨kind, cls, cap, d, ts⟩ := st
    cases kind with
    | loop t m n => exact ⟨fun _ => ⟨t, _, m, n, rfl, rfl⟩, fun _ => rfl⟩
    | _ => simp

/-- Three ranges that hold an index make a filtered list longer than 2, and a longer one holds three. -/
theorem two_lt_length_iff {l : List (Nat × Nat)} (hp : l.Pairwise fun a b => a.2 < b.2) :
    2 < l.length ↔ ∃ a ∈ l, ∃ b ∈ l, ∃ c ∈ l, a.2 < b.2 ∧ b.2 < c.2 := by
  constructor
  · intro hlen
    match l, hlen with
    | a :: b :: c :: r, _ =>
      simp only [List.pairwise_cons] at hp
      obtain ⟨ha, hb, -⟩ := hp
      exact ⟨a, by simp, b, by simp, c, by simp, ha b (by simp), hb c (by simp)⟩
  · rintro ⟨a, ha, b, hb, c, hc, hab, hbc⟩
    have hne : ∀ x y : Nat × Nat, x.2 < y.2 → x ≠ y := fun x y h he => absurd (he ▸ h) (Nat.lt_irrefl _)
    have hnodup : [a, b, c].Nodup := by
      simp [hne a b hab, hne b c hbc, hne a c (hab.trans hbc)]
    have hsub : [a, b, c] ⊆ l := by simp [ha, hb, hc]
    exact (List.subperm_of_subset hnodup hsub).length_le

theorem rangesFit_iff {a b : Nat × Nat} (ha : a.1 < a.2) (h : a.2 < b.2) :
    rangesFit a b = true ↔ a.2 < b.1 ∨ b.1 ≤ a.1 := by
  unfold rangesFit
  simp only [Bool.or_eq_true, decide_eq_true_eq]
  omega

theorem rangesFit_comm (a b : Nat × Nat) : rangesFit a b = rangesFit b a := by
  unfold rangesFit
  rw [Bool.eq_iff_iff]
  simp only [Bool.or_eq_true, decide_eq_true_eq]
  tauto

theorem rangesFit_self (a : Nat × Nat) : rangesFit a a = true := by simp [rangesFit]

/-- The first check: each target lies below its LOOP step and is none itself. -/
theorem targets_ok_iff (steps : List Step) :
    ((loopRanges 0 steps).all fun r => decide (r.1 < r.2) && !isLoopAt steps r.1) = true ↔
      ∀ l t, LoopAt steps l t → t < l ∧ ∀ t', ¬ LoopAt steps t t' := by
  rw [List.all_eq_true]
  have htest : ∀ r : Nat × Nat, (decide (r.1 < r.2) && !isLoopAt steps r.1) = true ↔
      r.1 < r.2 ∧ ∀ t', ¬ LoopAt steps r.1 t' := fun r => by
    rw [Bool.and_eq_true, decide_eq_true_eq, Bool.not_eq_true', ← Bool.not_eq_true, isLoopAt_iff, not_exists]
  constructor
  · intro h l t hl
    exact (htest (t, l)).1 (h _ ((mem_loopRanges_zero steps (t, l)).2 hl))
  · intro h r hr
    exact (htest r).2 (h _ _ ((mem_loopRanges_zero steps r).1 hr))

/-- The second check, where the first holds: two ranges are disjoint or nested. -/
theorem ranges_nest_iff {steps : List Step} (hlow : ∀ l t, LoopAt steps l t → t < l) :
    ((loopRanges 0 steps).all fun a => (loopRanges 0 steps).all fun b => rangesFit a b) = true ↔
      ∀ l t l' t', LoopAt steps l t → LoopAt steps l' t' → l < l' → l < t' ∨ t' ≤ t := by
  simp only [List.all_eq_true, mem_loopRanges_zero]
  constructor
  · intro h l t l' t' hl hl' hlt
    exact (rangesFit_iff (a := (t, l)) (b := (t', l')) (hlow _ _ hl) hlt).1 (h (t, l) hl (t', l') hl')
  · intro h a ha b hb
    rcases Nat.lt_trichotomy a.2 b.2 with hlt | heq | hlt
    · exact (rangesFit_iff (hlow _ _ ha) hlt).2 (h _ _ _ _ ha hb hlt)
    · have hsame : a = b := by
        obtain ⟨t, l⟩ := a
        obtain ⟨t', l'⟩ := b
        cases heq
        obtain ⟨st, m, n, hs, hk⟩ := ha
        obtain ⟨st', m', n', hs', hk'⟩ := hb
        cases hs.symm.trans hs'
        cases hk.symm.trans hk'
        rfl
      rw [hsame]; exact rangesFit_self b
    · rw [rangesFit_comm]
      exact (rangesFit_iff (hlow _ _ hb) hlt).2 (h _ _ _ _ hb ha hlt)

/-- The third check: no index lies in three ranges. -/
theorem ranges_depth_iff (steps : List Step) :
    ((List.range steps.length).all fun i =>
      decide (((loopRanges 0 steps).filter fun r => decide (r.1 ≤ i ∧ i ≤ r.2)).length ≤ 2)) = true ↔
      ∀ i l t l' t' l'' t'', LoopAt steps l t → LoopAt steps l' t' → LoopAt steps l'' t'' → l < l' → l' < l'' →
        ¬ ((t ≤ i ∧ i ≤ l) ∧ (t' ≤ i ∧ i ≤ l') ∧ (t'' ≤ i ∧ i ≤ l'')) := by
  have hlt : ∀ l t, LoopAt steps l t → l < steps.length := fun l t ⟨st, m, n, hs, _⟩ => by
    by_contra hge
    rw [List.getElem?_eq_none (Nat.not_lt.1 hge)] at hs
    cases hs
  have hfilter : ∀ i, ((loopRanges 0 steps).filter fun r => decide (r.1 ≤ i ∧ i ≤ r.2)).Pairwise fun a b => a.2 < b.2 :=
    fun i => (loopRanges_pairwise steps 0).filter _
  simp only [List.all_eq_true, List.mem_range, decide_eq_true_eq]
  constructor
  · rintro h i l t l' t' l'' t'' hl hl' hl'' h1 h2 ⟨hi, hi', hi''⟩
    have hdepth := h i (hi.2.trans_lt (hlt l t hl))
    refine absurd ((two_lt_length_iff (hfilter i)).2 ⟨(t, l), ?_, (t', l'), ?_, (t'', l''), ?_, h1, h2⟩) (Nat.not_lt.2 hdepth)
    all_goals
      rw [List.mem_filter, mem_loopRanges_zero, decide_eq_true_eq]
      constructor <;> assumption
  · intro h i _
    refine Nat.not_lt.1 fun hlen => ?_
    obtain ⟨a, ha, b, hb, c, hc, hab, hbc⟩ := (two_lt_length_iff (hfilter i)).1 hlen
    simp only [List.mem_filter, mem_loopRanges_zero, decide_eq_true_eq] at ha hb hc
    exact h i _ _ _ _ _ _ ha.1 hb.1 hc.1 hab hbc ⟨ha.2, hb.2, hc.2⟩

theorem loopsOk_iff (steps : List Step) : loopsOk steps = true ↔ LoopsNest steps := by
  unfold loopsOk
  rw [Bool.and_eq_true, Bool.and_eq_true, targets_ok_iff, ranges_depth_iff, and_assoc]
  exact and_congr_right fun htargets => and_congr_left' (ranges_nest_iff fun l t hl => (htargets l t hl).1)

/-! ### Programs -/

/-- The steps that the records of program `p` spell. -/
abbrev RecordsRead (img : List Byte) (p : Nat) (steps : List Step) : Prop :=
  (1 ≤ byteAt img (231 + 3 * p) ∧ byteAt img (231 + 3 * p) ≤ 32 ∧
    229 + wordAt img (229 + 3 * p) + 38 * byteAt img (231 + 3 * p) ≤ wordAt img 2) ∧
  steps.length = byteAt img (231 + 3 * p) ∧
  (∀ (i : Nat) (st : Step), steps[i]? = some st →
    StepRead img (wordAt img 8) (byteAt img (231 + 3 * p)) (229 + wordAt img (229 + 3 * p) + 38 * i) st) ∧
  LoopsNest steps

theorem stepCount_eq (img : List Byte) (p : Nat) : stepCount img p = byteAt img (231 + 3 * p) :=
  congrArg (byteAt img) (show 229 + 3 * p + 2 = 231 + 3 * p by omega)

theorem firstRecord_eq (img : List Byte) (p : Nat) : firstRecord img p = 229 + wordAt img (229 + 3 * p) :=
  congrArg (229 + ·) (img16_eq img (229 + 3 * p))

theorem programAt_of_read {img : List Byte} {p : Nat} {steps : List Step} (h : RecordsRead img p steps) :
    programAt img p = ⟨true, steps⟩ := by
  obtain ⟨⟨hlo, hhi, hend⟩, hlen, hall, hloops⟩ := h
  have hsteps : stepsAt img (settingsOf img).pFrame (stepCount img p) (firstRecord img p) (stepCount img p) = some steps := by
    rw [stepsAt_eq_readRow, stepCount_eq, firstRecord_eq, show (settingsOf img).pFrame = wordAt img 8 from img16_eq img 8]
    exact (readRow_eq_some _ _ _ _ _).2 ⟨hlen, fun j st hs => (stepAt_eq_some _ _ _ _ _).2 (hall j st hs)⟩
  unfold programAt
  rw [hsteps, stepCount_eq, firstRecord_eq, show profileLength img = wordAt img 2 from img16_eq img 2, if_neg (by omega)]
  exact if_pos ((loopsOk_iff steps).2 hloops)

theorem programAt_cases (img : List Byte) (p : Nat) :
    programAt img p = Program.absent ∨ ∃ steps, programAt img p = ⟨true, steps⟩ ∧ RecordsRead img p steps := by
  unfold programAt
  split
  · exact .inl rfl
  · next hrange =>
    split
    · exact .inl rfl
    · next steps hsteps =>
      split
      · next hloops =>
        rw [stepCount_eq, firstRecord_eq, show profileLength img = wordAt img 2 from img16_eq img 2] at hrange
        rw [stepsAt_eq_readRow, stepCount_eq, firstRecord_eq,
          show (settingsOf img).pFrame = wordAt img 8 from img16_eq img 8] at hsteps
        obtain ⟨hlen, hall⟩ := (readRow_eq_some _ _ _ _ _).1 hsteps
        refine .inr ⟨steps, rfl, ⟨by omega, by omega, by omega⟩, hlen, fun i st hs => (stepAt_eq_some _ _ _ _ _).1 (hall i st hs),
          (loopsOk_iff steps).1 hloops⟩
      · exact .inl rfl

/-- Settles O53: a program is absent, or holds the steps that its records spell. -/
theorem programsAreValidated : Obligations.ProgramsAreValidated := by
  unfold Obligations.ProgramsAreValidated
  refine ⟨fun img p hp => ⟨programAt img p, ?slot, ?_, ?_, fun steps h => programAt_of_read h⟩, loopsOk_iff⟩
  case slot =>
    unfold programsOf
    rw [List.getElem?_map, List.getElem?_range hp]
    rfl
  · intro hv
    rcases programAt_cases img p with ha | ⟨steps, ha, hread⟩
    · rw [ha] at hv; cases hv
    · rw [ha]; exact hread
  · intro hv
    rcases programAt_cases img p with ha | ⟨steps, ha, -⟩
    · rw [ha]; rfl
    · rw [ha] at hv; cases hv

end Sys2Proof.Machine
end

section
/-! PROOFS. LOOP processing and destinations (R123 to R126): a chain of LOOP steps ends within the program's length, so the count
that the model runs down never decides. -/

namespace Sys2Proof.Machine

/-! ### Why a chain ends -/

/-- How many steps a resolution from index `d` may take: a LOOP step leads to the next index or to a target that is no LOOP step. -/
def chainBound (steps : List Step) (d : Nat) : Nat := if isLoopAt steps d = true then steps.length - d + 1 else 1

theorem isLoopAt_lt {steps : List Step} {d : Nat} (h : isLoopAt steps d = true) : d < steps.length := by
  obtain ⟨t, st, m, n, hs, -⟩ := (isLoopAt_iff steps d).1 h
  by_contra hge
  rw [List.getElem?_eq_none (Nat.not_lt.1 hge)] at hs
  cases hs

theorem chainBound_le (steps : List Step) (d : Nat) : chainBound steps d ≤ steps.length + 1 := by
  unfold chainBound; split <;> omega

theorem chainBound_pos (steps : List Step) (d : Nat) : 1 ≤ chainBound steps d := by
  unfold chainBound; split <;> omega

theorem loopPush_index (l t n : Nat) (stack : List LoopEntry) :
    (loopPush l t n stack).1 = t ∨ (loopPush l t n stack).1 = l + 1 := by
  unfold loopPush
  split
  · exact .inl rfl
  · split
    · exact .inr rfl
    · exact .inl rfl

theorem loopStep_index (l t n : Nat) (stack : List LoopEntry) :
    (loopStep l t n stack).1 = t ∨ (loopStep l t n stack).1 = l + 1 := by
  unfold loopStep
  split
  · exact loopPush_index l t n _
  · split
    · split
      · exact .inl rfl
      · split
        · exact .inr rfl
        · exact .inl rfl
    · exact loopPush_index l t n _

/-- A LOOP step leads to an index with a shorter bound. -/
theorem chainBound_next {steps : List Step} (hn : LoopsNest steps) {d t : Nat} (hd : LoopAt steps d t) (n : Nat)
    (stack : List LoopEntry) : chainBound steps (loopStep d t n stack).1 + 1 ≤ chainBound steps d := by
  obtain ⟨hlow, -, -⟩ := hn
  have hloop : isLoopAt steps d = true := (isLoopAt_iff steps d).2 ⟨t, hd⟩
  have hlt := isLoopAt_lt hloop
  have htarget : isLoopAt steps t = false := Bool.eq_false_iff.2 fun h =>
    ((isLoopAt_iff steps t).1 h).elim ((hlow d t hd).2)
  rcases loopStep_index d t n stack with h | h <;> rw [h] <;> unfold chainBound
  · rw [htarget, hloop, if_neg Bool.false_ne_true, if_pos rfl]; omega
  · rw [hloop, if_pos rfl]
    split <;> omega

/-! ### One step of a resolution -/

section step
variable {steps : List Step} {f d : Nat} {stack : List LoopEntry} {cycles : Nat}

theorem resolve_past_end (h : steps.length ≤ d) : resolve steps f d stack cycles = ⟨.finish, stack, cycles⟩ := by
  cases f with
  | zero => rfl
  | succ f => rw [resolve, List.getElem?_eq_none h]

theorem resolve_at_finish {st : Step} (hs : steps[d]? = some st) (hk : st.kind = .finish) :
    resolve steps f d stack cycles = ⟨.finish, stack, cycles⟩ := by
  cases f with
  | zero => rfl
  | succ f => simp only [resolve, hs, hk]

theorem resolve_at_working {st : Step} (hs : steps[d]? = some st) (hk : st.kind.working = true) :
    resolve steps (f + 1) d stack cycles = ⟨.step d, stack, cycles⟩ := by
  simp only [resolve, hs]
  cases hkind : st.kind with
  | loop t m n => rw [hkind] at hk; cases hk
  | finish => rw [hkind] at hk; cases hk
  | _ => rfl

theorem resolve_at_loop {st : Step} {t n : Nat} {m : Bool} (hs : steps[d]? = some st) (hk : st.kind = .loop t m n) :
    resolve steps (f + 1) d stack cycles =
      resolve steps f (loopStep d t n stack).1 (loopStep d t n stack).2 (if m = true then satInc cycles 4294967295 else cycles) := by
  simp only [resolve, hs, hk]
  rfl

end step

/-- Above the bound of a chain the count run down does not matter. -/
theorem resolve_fuel {steps : List Step} (hn : LoopsNest steps) (f g d : Nat) (stack : List LoopEntry) (cycles : Nat)
    (hf : chainBound steps d ≤ f) (hg : chainBound steps d ≤ g) :
    resolve steps f d stack cycles = resolve steps g d stack cycles := by
  induction f generalizing g d stack cycles with
  | zero => exact absurd (chainBound_pos steps d) (by omega)
  | succ f ih =>
    obtain ⟨g, rfl⟩ : ∃ g', g = g' + 1 := ⟨g - 1, by have := chainBound_pos steps d; omega⟩
    cases hs : steps[d]? with
    | none =>
      have hend := List.getElem?_eq_none_iff.1 hs
      rw [resolve_past_end hend, resolve_past_end hend]
    | some st =>
      cases hk : st.kind with
      | loop t m n =>
        have hnext := chainBound_next hn ⟨st, m, n, hs, hk⟩ n stack
        rw [resolve_at_loop hs hk, resolve_at_loop hs hk]
        exact ih _ _ _ _ (by omega) (by omega)
      | finish => rw [resolve_at_finish hs hk, resolve_at_finish hs hk]
      | _ => rw [resolve_at_working hs (by rw [hk]; rfl), resolve_at_working hs (by rw [hk]; rfl)]

/-- In a program that passes the loop checks a LOOP step resolves as the index and the stack that its processing gives. -/
theorem resolve_loop {steps : List Step} (hn : LoopsNest steps) {d t n : Nat} {m : Bool} {st : Step} (hs : steps[d]? = some st)
    (hk : st.kind = .loop t m n) (stack : List LoopEntry) (cycles : Nat) :
    resolve steps (resolveFuel steps) d stack cycles =
      resolve steps (resolveFuel steps) (loopStep d t n stack).1 (loopStep d t n stack).2
        (if m = true then satInc cycles 4294967295 else cycles) := by
  unfold resolveFuel
  rw [resolve_at_loop hs hk]
  exact resolve_fuel hn _ _ _ _ _ (chainBound_le _ _) ((chainBound_le _ _).trans (Nat.le_succ _))

/-! ### The processing of a LOOP step -/

theorem loopStep_endless (l t n : Nat) (rest : List LoopEntry) :
    loopStep l t n (⟨l, none⟩ :: rest) = (t, ⟨l, none⟩ :: rest) := by
  simp [loopStep]

theorem loopStep_more {x : Nat} (hx : 1 < x) (l t n : Nat) (rest : List LoopEntry) :
    loopStep l t n (⟨l, some x⟩ :: rest) = (t, ⟨l, some (x - 1)⟩ :: rest) := by
  simp [loopStep, show x - 1 ≠ 0 by omega]

theorem loopStep_last {x : Nat} (hx : x ≤ 1) (l t n : Nat) (rest : List LoopEntry) :
    loopStep l t n (⟨l, some x⟩ :: rest) = (l + 1, rest) := by
  simp [loopStep, show x - 1 = 0 by omega]

theorem loopStep_other {l : Nat} {stack : List LoopEntry} (h : ∀ e, stack.head? = some e → e.loop ≠ l) (t n : Nat) :
    loopStep l t n stack = loopPush l t n stack := by
  cases stack with
  | nil => rfl
  | cons e rest => simp [loopStep, h e rfl]

/-- Settles O28: a working step or an end resolves at once, a LOOP step by `resolve_loop` and its case of R124. -/
theorem loopsAndDestinations : Obligations.LoopsAndDestinations := by
  unfold Obligations.LoopsAndDestinations
  intro steps hok d stack cycles
  have hn := (loopsOk_iff steps).1 hok
  refine ⟨resolve_past_end, fun st => resolve_at_finish, fun st => resolve_at_working, fun st t m n hs hk => ?loop, rfl,
    fun e rest => ⟨fun h => ?kept, fun h => ?popped⟩⟩
  case loop =>
    refine ⟨fun rest hstack => ?_, fun x rest hstack hx => ?_, fun x rest hstack hx => ?_, fun hhead => ⟨fun hz => ?_,
      fun ho => ?_, fun htwo => ?_⟩⟩ <;> rw [resolve_loop hn hs hk]
    · rw [hstack, loopStep_endless]
    · rw [hstack, loopStep_more hx]
    · rw [hstack, loopStep_last hx]
    · rw [loopStep_other hhead, loopPush, if_pos hz]
    · rw [loopStep_other hhead, loopPush, if_neg (by omega), if_pos ho]
    · rw [loopStep_other hhead, loopPush, if_neg (by omega), if_neg (by omega)]
  case kept => rw [gotoPops_cons, if_pos ((entryHolds_iff steps d e).2 h)]
  case popped => rw [gotoPops_cons, if_neg (mt (entryHolds_iff steps d e).1 h)]

end Sys2Proof.Machine
end

section
/-! PROOFS. The grant walk item by item (R42 to R44), and the demand of a channel (R109 to R111). -/

namespace Sys2Proof.Machine

/-! ### Walk order (R42) -/

theorem Item.before_total (a b : Item) : Item.before a b = true ∨ Item.before b a = true := by
  unfold Item.before
  simp only [Bool.or_eq_true, Bool.and_eq_true, decide_eq_true_eq]
  omega

theorem Item.before_trans {a b c : Item} (h : Item.before a b = true) (h' : Item.before b c = true) :
    Item.before a c = true := by
  unfold Item.before at h h' ⊢
  simp only [Bool.or_eq_true, Bool.and_eq_true, decide_eq_true_eq] at h h' ⊢
  omega

theorem insertItem_perm (x : Item) (l : List Item) : (insertItem x l).Perm (x :: l) := by
  induction l with
  | nil => exact .refl _
  | cons y r ih =>
    unfold insertItem
    split
    · exact .refl _
    · exact (ih.cons y).trans (.swap x y r)

theorem walkOrder_perm (l : List Item) : (walkOrder l).Perm l := by
  induction l with
  | nil => exact .refl _
  | cons x r ih => exact (insertItem_perm x _).trans (ih.cons x)

theorem insertItem_pairwise (x : Item) {l : List Item} (h : l.Pairwise fun a b => Item.before a b = true) :
    (insertItem x l).Pairwise fun a b => Item.before a b = true := by
  induction l with
  | nil => exact List.pairwise_singleton _ _
  | cons y r ih =>
    obtain ⟨hy, hr⟩ := List.pairwise_cons.1 h
    unfold insertItem
    split
    · next hxy => exact List.pairwise_cons.2 ⟨List.forall_mem_cons.2 ⟨hxy, fun b hb => Item.before_trans hxy (hy b hb)⟩, h⟩
    · next hxy =>
      refine List.pairwise_cons.2 ⟨fun b hb => ?_, ih hr⟩
      rcases List.mem_cons.1 ((insertItem_perm x r).mem_iff.1 hb) with rfl | hb
      · exact (Item.before_total b y).resolve_left hxy
      · exact hy b hb

theorem walkOrder_pairwise (l : List Item) : (walkOrder l).Pairwise fun a b => Item.before a b = true := by
  induction l with
  | nil => exact .nil
  | cons x r ih => exact insertItem_pairwise x ih

/-! ### What an item is served (R43, R44) -/

/-- The draw pass serves an item from its headroom less the draw demands ahead of it. -/
theorem drawPass_serves {room : Nat} {items : List Item} {pre post : List (Item × Int)} {x : Item} {g : Int}
    (h : drawPass room items = pre ++ (x, g) :: post) :
    g = (min x.demand.toNat (room - (pre.map fun p => p.1.demand.toNat).sum) : Nat) := by
  induction items generalizing room pre with
  | nil => cases pre <;> cases h
  | cons it r ih =>
    cases pre with
    | nil => cases h; rfl
    | cons p pre =>
      unfold drawPass at h
      obtain ⟨hp, hrest⟩ := List.cons.inj h
      have hfirst : p.1 = it := by rw [← hp]
      rw [ih hrest, List.map_cons, List.sum_cons, hfirst]
      congr 2
      omega

/-- The supply pass serves a supply item from its headroom less the offers ahead of it, and leaves every other item's grant. -/
theorem supplyPass_serves {room : Nat} {l pre post : List (Item × Int)} {x : Item} {g : Int}
    (h : supplyPass room l = pre ++ (x, g) :: post) :
    (x.demand < 0 → g = -((min (-x.demand).toNat (room - (pre.map fun p => (-p.1.demand).toNat).sum) : Nat) : Int)) ∧
    (0 ≤ x.demand → ∃ pre' post', l = pre' ++ (x, g) :: post' ∧ pre'.map Prod.fst = pre.map Prod.fst) := by
  induction l generalizing room pre with
  | nil => cases pre <;> cases h
  | cons q r ih =>
    cases pre with
    | nil =>
      obtain ⟨hq, -⟩ := List.cons.inj h
      obtain ⟨rfl, hg⟩ := Prod.mk.inj hq
      refine ⟨fun hneg => ?_, fun hpos => ⟨[], r, ?_, rfl⟩⟩
      · rw [← hg, if_pos hneg]; rfl
      · rw [← hg, if_neg (not_lt.2 hpos)]; rfl
    | cons p pre =>
      unfold supplyPass at h
      obtain ⟨hp, hrest⟩ := List.cons.inj h
      have hfirst : p.1 = q.1 := by rw [← hp]
      obtain ⟨hsupply, hother⟩ := ih hrest
      refine ⟨fun hneg => ?_, fun hpos => ?_⟩
      · rw [hsupply hneg, List.map_cons, List.sum_cons, hfirst]
        unfold offerOf
        congr 3
        omega
      · obtain ⟨pre', post', rfl, hpre⟩ := hother hpos
        exact ⟨q :: pre', post', rfl, by rw [List.map_cons, List.map_cons, hpre, hfirst]⟩

theorem map_fst_supplyPass (room : Nat) (l : List (Item × Int)) : (supplyPass room l).map Prod.fst = l.map Prod.fst := by
  induction l generalizing room with
  | nil => rfl
  | cons p r ih => rw [supplyPass, List.map_cons, List.map_cons, ih]

theorem map_fst_walkItems (imp exp grd : Nat) (items : List Item) :
    (walkItems imp exp grd items).map Prod.fst = walkOrder items := by
  unfold walkItems
  rw [map_fst_supplyPass, map_fst_drawPass]

/-- Settles O34: the order by insertion, the grants by the pass that serves each item. -/
theorem walkServesInOrder : Obligations.WalkServesInOrder := by
  unfold Obligations.WalkServesInOrder
  intro imp exp grd items
  rw [map_fst_walkItems]
  refine ⟨walkOrder_perm items, walkOrder_pairwise items, fun pre post x g hsplit => ?_⟩
  have hoffers : totalOffer (walkOrder items) = (items.map fun it => (-it.demand).toNat).sum :=
    ((walkOrder_perm items).map _).sum_eq
  have hdrawn : drawTotal (drawPass (imp - grd + totalOffer (walkOrder items)) (walkOrder items)) =
      ((walkItems imp exp grd items).map fun p => p.2.toNat).sum :=
    (drawTotal_supplyPass _ (drawGrants_drawPass _ _)).symm
  have hwalk := hsplit
  unfold walkItems at hwalk
  obtain ⟨hsupply, hother⟩ := supplyPass_serves hwalk
  have hdraw : 0 ≤ x.demand → g = (min x.demand.toNat
      (imp - grd + (items.map fun it => (-it.demand).toNat).sum - (pre.map fun p => p.1.demand.toNat).sum) : Nat) := by
    intro hpos
    obtain ⟨pre', post', hpass, hpre⟩ := hother hpos
    have hsame : (pre'.map fun p => p.1.demand.toNat) = pre.map fun p => p.1.demand.toNat := by
      have hmap := congrArg (List.map fun it : Item => it.demand.toNat) hpre
      simpa only [List.map_map, Function.comp_def] using hmap
    rw [drawPass_serves hpass, hsame, hoffers]
  refine ⟨fun hzero => ?_, fun hpos => hdraw hpos.le, fun hneg => ?_⟩
  · rw [hdraw hzero.ge, hzero]; simp
  · rw [hsupply hneg, hdrawn]

/-! ### Demand (R109 to R111) -/

/-- The quanta of a power before they are bounded: rounded up. -/
theorem quanta_rounded_up {unit p : Nat} (hu : 0 < unit) :
    p ≤ (p + (unit - 1)) / unit * unit ∧ (0 < p → ((p + (unit - 1)) / unit - 1) * unit < p) ∧
      (0 < p → 0 < (p + (unit - 1)) / unit) ∧ (p = 0 → (p + (unit - 1)) / unit = 0) := by
  have hdiv := Nat.div_add_mod (p + (unit - 1)) unit
  have hmod := Nat.mod_lt (p + (unit - 1)) hu
  rw [Nat.mul_comm] at hdiv
  refine ⟨by omega, fun hp => ?_, fun hp => Nat.div_pos (by omega) hu, fun hp => Nat.div_eq_of_lt (by omega)⟩
  rw [Nat.sub_mul, Nat.one_mul]
  omega

theorem quantaOf_natAbs (q : Nat) (power : Int) :
    (quantaOf q power).natAbs = min ((power.natAbs + (q * 10000 - 1)) / (q * 10000)) 200 := by
  unfold quantaOf
  dsimp only [Config.maxQuanta]
  generalize (power.natAbs + (q * 10000 - 1)) / (q * 10000) = rounded
  split <;> omega

theorem quantaOf_sign (q : Nat) (power : Int) :
    (0 ≤ power → quantaOf q power = (quantaOf q power).natAbs) ∧ (power < 0 → quantaOf q power = -((quantaOf q power).natAbs : Int)) := by
  unfold quantaOf
  dsimp only
  generalize min ((power.natAbs + (q * 10000 - 1)) / (q * 10000)) Config.maxQuanta = bounded
  split <;> constructor <;> intro h <;> omega

@[simp] theorem quantaOf_zero (q : Nat) : quantaOf q 0 = 0 := by
  have hz : (quantaOf q 0).natAbs = 0 := by
    rw [quantaOf_natAbs, Int.natAbs_zero]
    rcases Nat.eq_zero_or_pos q with rfl | hq
    · rfl
    · rw [(quanta_rounded_up (by omega)).2.2.2 rfl]; rfl
  exact Int.natAbs_eq_zero.1 hz

theorem bandBound_eq (l : Limits) (i : Int) : bandBound l i = bandLimit l i := by
  unfold bandBound bandLimit
  split <;> omega

theorem demandOf_enabled {st : Settings} {k : Fin 4} (h : (st.channels.get k).enable = true) (programs : List Program)
    (ch : Channel) :
    demandOf st programs k ch = demandFor st.q (askPower ch.vMeas (askOf programs (limitsOf st (bandOf k ch) k) ch).1)
      (askOf programs (limitsOf st (bandOf k ch) k) ch).2 :=
  if_pos h

theorem demandFor_zero (q cls : Nat) : demandFor q 0 cls = ⟨0, 0⟩ := if_pos (quantaOf_zero q)

theorem demandFor_no_current (q cls : Nat) (v : Word) : demandFor q (askPower v (.current 0)) cls = ⟨0, 0⟩ := by
  rw [askPower, Int.zero_mul, demandFor_zero]

/-- What a RUNNING step asks for, as a demand. -/
theorem demandFor_askOfStep (q : Nat) (l : Limits) (v : Word) (cv : Nat) (st : Step) :
    demandFor q (askPower v (askOfStep st.kind cv l v)) st.cls = stepDemand q l v cv st := by
  unfold stepDemand
  cases hk : st.kind with
  | rest => exact demandFor_no_current _ _ _
  | loop t m n => exact demandFor_no_current _ _ _
  | finish => exact demandFor_no_current _ _ _
  | dischargeCP p => rfl
  | chargeCC i => simp only [askOfStep, bandBound_eq]; rfl
  | chargeCV vCv i => simp only [askOfStep, bandBound_eq]; rfl
  | dischargeCC i => simp only [askOfStep, bandBound_eq]; rfl
  | pulse a b n => simp only [askOfStep, bandBound_eq]; rfl

theorem demandFor_askOfStart (q : Nat) (l : Limits) (v : Word) (cv : Nat) (programs : List Program) (p : Nat) :
    demandFor q (askPower v (askOfStart programs p cv l v).1) (askOfStart programs p cv l v).2 =
      startDemand q l v (stepsOf programs p) := by
  unfold askOfStart startDemand
  cases stepsOf programs p with
  | nil => exact demandFor_no_current _ _ _
  | cons st rest =>
    refine (demandFor_askOfStep q l v (entryCv st.kind cv) st).trans ?_
    obtain ⟨kind, cls, cap, d, terms⟩ := st
    unfold stepDemand entryCv
    cases kind <;> rfl

/-- Settles O23: the quanta are a division rounded up, and the demand by state is the table of R110. -/
theorem demandBuysItsCurrent : Obligations.DemandBuysItsCurrent := by
  unfold Obligations.DemandBuysItsCurrent
  refine ⟨fun q v i hq => ?quanta, fun st programs k ch => ⟨fun hdis => ?disabled, ?cls, fun hen => ?table⟩⟩
  case quanta =>
    dsimp only
    have hv : 0 < max v.toNat 1 := by omega
    generalize max v.toNat 1 = m at hv
    have hpower : (i * (m : Int)).natAbs = i.natAbs * m := by rw [Int.natAbs_mul, Int.natAbs_natCast]
    have hunit : 0 < q * 10000 := by omega
    obtain ⟨hup, hbelow, hpos, -⟩ := quanta_rounded_up (p := i.natAbs * m) hunit
    have habs := quantaOf_natAbs q (i * (m : Int))
    rw [hpower] at habs
    obtain ⟨hnonneg, hneg⟩ := quantaOf_sign q (i * (m : Int))
    have hasked : i ≠ 0 → 0 < i.natAbs * m := fun hi => Nat.mul_pos (Int.natAbs_pos.2 hi) hv
    refine ⟨by omega, fun hi => by rw [hi, Int.zero_mul, quantaOf_zero], fun hi => ?_, fun hi => ?_, fun hcap => ?_⟩
    · have hd := hpos (hasked hi.ne')
      have := hnonneg (Int.mul_nonneg hi.le (by omega))
      omega
    · have hd := hpos (hasked hi.ne)
      have := hneg (Int.mul_neg_of_neg_of_pos hi (by omega))
      omega
    · have hsmall : (i.natAbs * m + (q * 10000 - 1)) / (q * 10000) ≤ 200 := by
        refine Nat.lt_succ_iff.1 ((Nat.div_lt_iff_lt_mul hunit).2 ?_)
        omega
      rw [habs, Nat.min_eq_left hsmall, Nat.mul_assoc, Nat.mul_assoc]
      exact ⟨(Nat.le_div_iff_mul_le hv).2 hup, fun hi => hbelow (hasked hi)⟩
  case disabled => exact if_neg (by simp [hdis])
  case cls =>
    unfold demandOf
    dsimp only
    split
    · split
      · exact fun _ => rfl
      · next hne => exact fun hz => absurd hz hne
    · exact fun _ => rfl
  case table =>
    rw [demandOf_enabled hen]
    unfold askOf
    refine ⟨fun hs => ?rests, fun hs => ?closing, fun hs step hstep => ?running, fun hs => ?stopping, fun hs => ?others⟩
    case rests =>
      have hboth : ∀ b : Bool, demandFor st.q (askPower ch.vMeas (if b then askOfStart programs ch.runProgram ch.regulator.cv
          (limitsOf st (bandOf k ch) k) ch.vMeas else (.current 0, 0)).1) (if b then askOfStart programs ch.runProgram
          ch.regulator.cv (limitsOf st (bandOf k ch) k) ch.vMeas else (.current 0, 0)).2 =
          if b = true then startDemand st.q (limitsOf st (bandOf k ch) k) ch.vMeas (stepsOf programs ch.runProgram) else ⟨0, 0⟩ := by
        intro b
        cases b
        · exact demandFor_no_current _ _ _
        · exact demandFor_askOfStart _ _ _ _ _ _
      simp only [List.mem_cons, List.not_mem_nil, or_false] at hs
      rcases hs with hs | hs <;> rw [hs] <;> exact hboth _
    case closing =>
      rw [hs]
      dsimp only
      split
      · exact demandFor_askOfStart _ _ _ _ _ _
      · exact demandFor_no_current _ _ _
    case running => rw [hs]; dsimp only; rw [hstep]; exact demandFor_askOfStep _ _ _ _ _
    case stopping => rw [hs]; rfl
    case others =>
      simp only [List.mem_cons, List.not_mem_nil, or_false] at hs
      rcases hs with hs | hs | hs <;> rw [hs] <;> exact demandFor_no_current _ _ _

end Sys2Proof.Machine
end

section
/-! PROOFS. Share frames, the heard table and the walk events: what is latched and sent (R23, R24), what an accepted frame and the own
readback do (R25 to R36, R64), and the start and the completion of a walk (R31 to R33, R41, R47, R59). -/

namespace Sys2Proof.Machine

/-! ### Latching and sending (R23, R24) -/

theorem latchBlocks_congr {s t : State} (hl : t.loader = s.loader) (hc : t.channels = s.channels) :
    latchBlocks t = latchBlocks s := by
  unfold latchBlocks; rw [hl, hc]

theorem latchBlocks_get (s : State) (k : Fin 4) : (latchBlocks s).get k =
    if (s.loader.settings.channels.get k).enable = true then
      ⟨(demandOf s.loader.settings s.loader.programs k (s.channels.get k)).quanta,
        (demandOf s.loader.settings s.loader.programs k (s.channels.get k)).cls, reportedOf (s.channels.get k)⟩
    else ⟨0, 0, .idle⟩ := by
  unfold latchBlocks; rw [Quad.get_tab]

/-- The reported state: PENDING where a run request waits, else the channel's state (R23). -/
theorem reportedOf_pending {ch : Channel} (h : (ch.state = .idle ∨ ch.state = .ended) ∧ ch.runRequest = true) :
    reportedOf ch = .pending := by
  obtain ⟨hs | hs, hr⟩ := h <;> simp [reportedOf, hs, hr]

theorem reportedCode_reportedOf {ch : Channel} (h : ¬ ((ch.state = .idle ∨ ch.state = .ended) ∧ ch.runRequest = true)) :
    (reportedCode (reportedOf ch)).toNat =
      match ch.state with
      | .idle => 0 | .closing => 1 | .running => 2 | .held => 3 | .stopping => 4 | .opening => 5 | .ended => 6 | .faulted => 7 := by
  unfold reportedOf
  cases hs : ch.state
  case idle => exact congrArg (fun r => (reportedCode r).toNat) (if_neg fun hr => h ⟨.inl hs, hr⟩)
  case ended => exact congrArg (fun r => (reportedCode r).toNat) (if_neg fun hr => h ⟨.inr hs, hr⟩)
  all_goals rfl

theorem slotAhead_ready {s : State} (hr : Ready s) {k : Nat} (hp : s.timer.phase < k * (s.loader.settings.pRound * 16000 / 64)) :
    (isReady s && slotAhead s k) = true := by
  rw [Bool.and_eq_true, isReady_iff]
  exact ⟨hr, decide_eq_true hp⟩

theorem latchSlot_of_ahead {s : State} (hr : Ready s)
    (hp : s.timer.phase < (s.loader.settings.station - 1) * (s.loader.settings.pRound * 16000 / 64)) :
    latchSlot s = latchNow (toSlot s (s.loader.settings.station - 1)) :=
  if_pos (slotAhead_ready hr hp)

/-- At station 1 the round start makes the latch. -/
theorem settleRound_latched {s : State} (h : s.loader.settings.station = 1) (r : Reports) :
    (settleRound s r).timer.latched = true ∧ (settleRound s r).link.latched = latchBlocks (settleRound s r) := by
  unfold settleRound
  dsimp only
  rw [if_pos h]
  exact ⟨rfl, rfl⟩

theorem sendMark_link (s : State) : (sendMark s).link =
    if s.lock.pacer = true then { s.link with line := some (.mark (ownMark s) false) } else s.link := by
  unfold sendMark; split <;> rfl

theorem sendMark_latched (s : State) : (sendMark s).link.latched = s.link.latched := by
  rw [sendMark_link]; split <;> rfl

/-- The state that builds the share frame: at its slot, with the blocks latched in this round. -/
def sharing (s : State) : State :=
  if s.timer.latched = true then toSlot s s.loader.settings.station else latchNow (toSlot s s.loader.settings.station)

theorem sendShare_permitted {s : State} (hr : Ready s)
    (hp : s.timer.phase < s.loader.settings.station * (s.loader.settings.pRound * 16000 / 64))
    (h : sharePermitted s.lock.state s.member.state = true) :
    sendShare s = (sharing s).setLink { (sharing s).link with line := some (.share (ownShare (sharing s)) false) } := by
  unfold sendShare
  rw [if_pos (slotAhead_ready hr hp)]
  dsimp only
  exact if_pos h

theorem sendShare_not_permitted {s : State} (hr : Ready s)
    (hp : s.timer.phase < s.loader.settings.station * (s.loader.settings.pRound * 16000 / 64))
    (h : sharePermitted s.lock.state s.member.state = false) : sendShare s = toSlot s s.loader.settings.station := by
  unfold sendShare
  rw [if_pos (slotAhead_ready hr hp)]
  dsimp only
  exact if_neg (by simp [h])

theorem sharePermitted_iff (l : LockState) (m : MemberState) :
    sharePermitted l m = true ↔ l = .locked ∧ (m = .joining ∨ m = .joined) := by
  unfold sharePermitted
  simp only [Bool.and_eq_true, Bool.or_eq_true, decide_eq_true_eq]

theorem sharing_latched (s : State) : (sharing s).link.latched = if s.timer.latched = true then s.link.latched else latchBlocks s := by
  unfold sharing
  split
  · rfl
  · exact latchBlocks_congr rfl rfl

/-- What forming the frame leaves: all but the phase, the latch and the blocks. -/
theorem sharing_keeps (s : State) : LinkFrame s (sharing s) ∧ (sharing s).heard = s.heard ∧ (sharing s).walk = s.walk ∧
    (sharing s).member = s.member ∧ (sharing s).channels = s.channels ∧ (sharing s).capture = s.capture ∧
    (sharing s).draws = s.draws ∧ (sharing s).lock = s.lock ∧
    (sharing s).timer.phase = s.loader.settings.station * (s.loader.settings.pRound * 16000 / 64) ∧
    (sharing s).timer.round = s.timer.round := by
  unfold sharing
  split <;> exact ⟨⟨rfl, rfl, rfl, rfl, rfl, rfl, rfl, rfl, rfl⟩, rfl, rfl, rfl, rfl, rfl, rfl, rfl, rfl, rfl⟩

/-- Settles O31: the latch of slot n - 1, the latch of station 1, and the frame of slot n. -/
theorem demandsAreLatchedAndSent : Obligations.DemandsAreLatchedAndSent := by
  unfold Obligations.DemandsAreLatchedAndSent
  refine ⟨fun s hr hp => ?latch, fun s hr hst => ?first, fun s hr hp => ?send⟩
  case latch =>
    refine ⟨latchSlot s, rfl, ?_⟩
    rw [latchSlot_of_ahead hr hp]
    refine ⟨⟨⟨rfl, rfl, rfl, rfl, rfl, rfl, rfl, rfl, rfl⟩, rfl, rfl, rfl, rfl, rfl⟩, rfl, rfl, rfl, rfl, fun k => ?_⟩
    have hblock : (latchNow (toSlot s (s.loader.settings.station - 1))).link.latched.get k = (latchBlocks s).get k :=
      congrArg (Quad.get · k) (latchBlocks_congr rfl rfl)
    rw [hblock, latchBlocks_get]
    refine ⟨fun hdis => if_neg (by simp [hdis]), fun hen => ?_⟩
    rw [if_pos hen]
    exact ⟨rfl, rfl, reportedOf_pending, reportedCode_reportedOf⟩
  case first =>
    refine ⟨rollover s, rfl, ?_⟩
    rw [rollover_of_ready hr, sendMark_timer, sendMark_latched]
    obtain ⟨hflag, hblocks⟩ := settleRound_latched (s := turned s) hst (rolloverLock s).reports
    exact ⟨hflag, hblocks.trans (latchBlocks_congr (sendMark_loader _).symm (sendMark_channels _).symm)⟩
  case send =>
    refine ⟨sendShare s, rfl, ?_⟩
    cases hperm : sharePermitted s.lock.state s.member.state with
    | false =>
      have hnot : ¬ (s.lock.state = .locked ∧ (s.member.state = .joining ∨ s.member.state = .joined)) := by
        rw [← sharePermitted_iff, hperm]; decide
      rw [sendShare_not_permitted hr hp hperm]
      exact ⟨⟨⟨rfl, rfl, rfl, rfl, rfl, rfl, rfl, rfl, rfl⟩, rfl, rfl, rfl, rfl, rfl⟩, rfl, rfl, rfl, rfl,
        fun hx => absurd hx hnot, fun _ => rfl⟩
    | true =>
      obtain ⟨hframe, hheard, hwalk, hmember, hchannels, hcapture, hdraws, hlock, hphase, hround⟩ := sharing_keeps s
      have ⟨_, hloader, _, _, _, hconsole, _⟩ := hframe
      have hin := (sharePermitted_iff _ _).1 hperm
      rw [sendShare_permitted hr hp hperm]
      refine ⟨⟨hframe, hheard, hwalk, hmember, hchannels, hcapture⟩, hdraws, hlock, hphase, hround,
        fun _ => ⟨ownShare (sharing s), rfl, ?_⟩, fun hx => absurd hin hx⟩
      unfold ownShare ownNumber
      rw [hloader, hround, hmember, hheard, hconsole]
      refine ⟨rfl, rfl, ?_, rfl, rfl, rfl, sharing_latched s, fun k => Quad.get_map _ _ k⟩
      obtain ⟨-, hm | hm⟩ := hin <;> rw [hm] <;> rfl

/-! ### Classification at walk start (R31 to R33) -/

theorem startWalk_not_taken {s : State} (h : ¬ Ready s ∨ 57 * (s.loader.settings.pRound * 16000 / 64) ≤ s.timer.phase) :
    startWalk s = s := by
  refine if_neg ?_
  rw [Bool.and_eq_true, isReady_iff]
  rintro ⟨hr, hp⟩
  exact h.elim (fun hn => hn hr) fun hle => absurd (of_decide_eq_true hp) (Nat.not_lt.2 hle)

/-- The state after a walk start. -/
def walkStarted (s : State) : State :=
  { toSlot s Config.walkStartSlot with
    heard := classifyAll s.heard s.timer.round
    member := walkStartMember s.member (heardEntry (classifyAll s.heard s.timer.round) s.loader.settings.station)
    walk := walkStartUnit s.walk (classifyAll s.heard s.timer.round) s.member.state (demandsOf s) }

theorem startWalk_taken {s : State} (hr : Ready s) (hp : s.timer.phase < 57 * (s.loader.settings.pRound * 16000 / 64)) :
    startWalk s = walkStarted s := if_pos (slotAhead_ready hr hp)

/-- Settles O32: the table is classified entry by entry, and `classify` is the table of R31. -/
theorem walkStartClassifies : Obligations.WalkStartClassifies := by
  unfold Obligations.WalkStartClassifies
  refine ⟨fun s hr hp => ⟨startWalk s, rfl, ?_⟩, fun s h => congrArg Host.Outcome.next (startWalk_not_taken h)⟩
  rw [startWalk_taken hr hp]
  refine ⟨List.length_map _, fun j e he => ⟨classify e, ?_, ?_⟩⟩
  · show (s.heard.entries.map classify)[j]? = some (classify e)
    rw [List.getElem?_map, he]
    rfl
  · unfold classify
    cases hh : e.heard
    · cases hs : e.status
      case absent => simp [Demand.zero]
      case present => simp
      case carried =>
        by_cases hc : e.carry = 1
        · simp [hc]
        · simp [hc, Demand.zero]
    · simp

/-! ### The heard map and the snapshot -/

/-- The bits of the heard map as a number, station 1 lowest. -/
def presentBits (entries : List HeardEntry) : Nat :=
  entries.foldr (fun e m => 2 * m + (if e.status = .present then 1 else 0)) 0

theorem presentMap_eq (entries : List HeardEntry) : presentMap entries = BitVec.ofNat 48 (presentBits entries) := rfl

theorem presentBits_cons (e : HeardEntry) (r : List HeardEntry) :
    presentBits (e :: r) = 2 * presentBits r + (if e.status = .present then 1 else 0) := rfl

theorem presentBits_bit (entries : List HeardEntry) (i : Nat) :
    (presentBits entries).testBit i = true ↔ ∃ e, entries[i]? = some e ∧ e.status = .present := by
  induction entries generalizing i with
  | nil => simp [presentBits]
  | cons e r ih =>
    rw [presentBits_cons]
    cases i with
    | zero =>
      rw [Nat.testBit_zero]
      by_cases hp : e.status = .present <;> simp [hp]
    | succ i =>
      have hhalf : (2 * presentBits r + (if e.status = .present then 1 else 0)) / 2 = presentBits r := by
        split <;> omega
      rw [Nat.testBit_succ, hhalf, ih, List.getElem?_cons_succ]

/-- The heard map holds a station exactly where its entry is PRESENT (R33). -/
theorem inMap_presentMap (entries : List HeardEntry) {n : Nat} (h1 : 1 ≤ n) (h48 : n ≤ 48) :
    inMap (presentMap entries) n = true ↔ ∃ e, entries[n - 1]? = some e ∧ e.status = .present := by
  unfold inMap
  rw [presentMap_eq, Bool.and_eq_true, decide_eq_true_eq, BitVec.getLsbD_ofNat, Bool.and_eq_true, decide_eq_true_eq,
    presentBits_bit]
  exact ⟨fun h => h.2.2, fun h => ⟨h1, by omega, h⟩⟩

/-- The snapshot holds the entries that are not ABSENT, each with its station number (R32). -/
theorem mem_snapshotFrom (entries : List HeardEntry) (n : Nat) (x : SnapshotEntry) :
    x ∈ snapshotFrom n entries ↔ ∃ j e, entries[j]? = some e ∧ e.status ≠ .absent ∧ x = ⟨n + j, e.demands⟩ := by
  induction entries generalizing n with
  | nil => simp [snapshotFrom]
  | cons e r ih =>
    have hsplit : (∃ j e', (e :: r)[j]? = some e' ∧ e'.status ≠ .absent ∧ x = ⟨n + j, e'.demands⟩) ↔
        (e.status ≠ .absent ∧ x = ⟨n, e.demands⟩) ∨ x ∈ snapshotFrom (n + 1) r := by
      rw [ih]
      constructor
      · rintro ⟨j, e', he, hs, hx⟩
        cases j with
        | zero => cases he; exact .inl ⟨hs, hx⟩
        | succ j => exact .inr ⟨j, e', he, hs, by rw [hx, show n + (j + 1) = n + 1 + j by omega]⟩
      · rintro (⟨hs, hx⟩ | ⟨j, e', he, hs, hx⟩)
        · exact ⟨0, e, rfl, hs, hx⟩
        · exact ⟨j + 1, e', he, hs, by rw [hx, show n + (j + 1) = n + 1 + j by omega]⟩
    rw [hsplit, snapshotFrom]
    split
    · next ha => simp [ha]
    · next ha => simp [ha]

/-- The entries of stations 1 to 48 are those of the table's list. -/
theorem heardEntry_iff {h : HeardTable} (hlen : h.entries.length = 48) {n : Nat} (h1 : 1 ≤ n) (h48 : n ≤ 48) :
    h.entries[n - 1]? = some (heardEntry h n) := by
  unfold heardEntry
  rw [List.getElem?_eq_getElem (by omega)]
  rfl

/-! ### The own grants (R44) -/

theorem mem_itemsOf_station {n : Nat} {d : Quad Demand} {it : Item} (h : it ∈ itemsOf n d) : it.station = n := by
  simp only [itemsOf, List.mem_cons, List.not_mem_nil, or_false] at h
  rcases h with rfl | rfl | rfl | rfl <;> rfl

/-- A walk without items of a station gives it no grants. -/
theorem ownGrants_absent {n imp exp grd : Nat} {items : List Item} (h : ∀ it ∈ items, it.station ≠ n) :
    ownGrants n (walkItems imp exp grd items) = Quad.same 0 := by
  have hnone : ∀ k : Fin 4, (walkItems imp exp grd items).find? (fun p => decide (p.1.station = n ∧ p.1.channel = k)) = none := by
    intro k
    rw [List.find?_eq_none]
    intro p hp
    have hmem : p.1 ∈ walkOrder items := by
      rw [← map_fst_walkItems imp exp grd]; exact List.mem_map_of_mem hp
    have hne := h p.1 ((walkOrder_perm items).mem_iff.1 hmem)
    simp [hne]
  refine Quad.ext_get _ _ fun k => ?_
  unfold ownGrants grantOf
  rw [Quad.get_tab, hnone, Quad.get_same]

/-- Settles O33: the fields of `walkStarted` and of a completed walk. -/
theorem walkStartAndCompletion : Obligations.WalkStartAndCompletion := by
  unfold Obligations.WalkStartAndCompletion
  refine ⟨fun s hr hp hlen => ⟨startWalk s, rfl, ?start⟩, fun s hw => congrArg Host.Outcome.next ?complete,
    fun s hw => congrArg Host.Outcome.next (if_neg (by simp [hw])), fun st inputs hne => ownGrants_absent fun it hit => ?own⟩
  case start =>
    rw [startWalk_taken hr hp]
    have hlen' : (walkStarted s).heard.entries.length = 48 := (List.length_map _).trans hlen
    refine ⟨⟨rfl, rfl, rfl, rfl, rfl, rfl, rfl, rfl, rfl⟩, rfl, rfl, rfl, rfl, rfl, rfl, fun n h1 h48 => ?map, rfl, rfl, rfl,
      fun x => ?snapshot, fun k => Quad.get_tab _ k, ?hall, rfl, rfl, rfl, rfl, rfl, rfl, rfl, fun hm => ?other, fun hm => ?joining⟩
    case map =>
      refine (inMap_presentMap _ h1 h48).trans ?_
      show (∃ e, (walkStarted s).heard.entries[n - 1]? = some e ∧ _) ↔ _
      rw [heardEntry_iff hlen' h1 h48]
      simp
    case snapshot =>
      refine (mem_snapshotFrom (walkStarted s).heard.entries 1 x).trans ⟨?_, ?_⟩
      · rintro ⟨j, e, he, hs, hx⟩
        have hj : j < 48 := by
          rw [← hlen']; exact (List.getElem?_eq_some_iff.1 he).1
        have hentry := heardEntry_iff hlen' (n := 1 + j) (by omega) (by omega)
        rw [Nat.add_sub_cancel_left, he] at hentry
        cases hentry
        exact ⟨1 + j, by omega, by omega, hs, hx⟩
      · rintro ⟨n, h1, h48, hs, hx⟩
        exact ⟨n - 1, _, heardEntry_iff hlen' h1 h48, hs, by rw [hx, Nat.add_sub_cancel' h1]⟩
    case hall =>
      show (decide (s.member.state = .joining) || decide (s.member.state = .joined)) = true ↔ _
      rw [Bool.or_eq_true, decide_eq_true_eq, decide_eq_true_eq]
    case other => exact if_neg hm
    case joining =>
      have hmember : (walkStarted s).member = { s.member with
          joinRounds := satInc s.member.joinRounds Config.max16
          confirmed := s.member.confirmed || decide ((heardEntry (walkStarted s).heard s.loader.settings.station).status = .present) } :=
        if_pos hm
      rw [hmember]
      refine ⟨hm, rfl, fun hpres => ?_, fun hpres => ?_⟩
      · simp [hpres]
      · simp [hpres]
  case complete =>
    unfold completeWalk
    rw [if_pos hw]
    have hgate : (s.walk.runsHall && !s.walk.discardHall) = true ↔ s.walk.runsHall = true ∧ s.walk.discardHall = false := by
      rw [Bool.and_eq_true, Bool.not_eq_true']
    simp only [hgate]
    rfl
  case own =>
    obtain ⟨e, he, hmem⟩ := List.mem_flatMap.1 hit
    rw [mem_itemsOf_station hmem]
    exact hne e he

/-! ### An accepted share frame (R26 to R36) -/

theorem all_blocks_iff (q : Quad ShareBlock) (test : ShareBlock → Bool) :
    q.toList.all test = true ↔ ∀ k : Fin 4, test (q.get k) = true := by
  simp only [Quad.toList, List.all_cons, List.all_nil, Bool.and_eq_true, Bool.and_true]
  exact ⟨fun ⟨h0, h1, h2, h3⟩ k => match k with | 0 => h0 | 1 => h1 | 2 => h2 | 3 => h3, fun h => ⟨h 0, h 1, h 2, h 3⟩⟩

/-- The decoder's tests on a SHARE frame are those of R26 to R28, made when its check completes. -/
theorem shareAccepted_iff (s : State) (f : ShareFrame) (arr : Arrival) :
    shareAccepted (advanceTo s arr.now) f arr = true ↔ SharePasses s f arr := by
  have hmember : (f.member.toNat = memberCode .joining ∨ f.member.toNat = memberCode .joined) ↔ (f.member = 1 ∨ f.member = 2) :=
    or_congr (BitVec.toNat_inj (y := (1 : Byte))) (BitVec.toNat_inj (y := (2 : Byte)))
  unfold shareAccepted
  simp only [Bool.and_eq_true, Bool.or_eq_true, Bool.not_eq_true', decide_eq_true_eq, all_blocks_iff, hmember, and_assoc]
  exact Iff.rfl

theorem receiveShare_accepted {s : State} {f : ShareFrame} {arr : Arrival} (hr : Ready s) (h : SharePasses s f arr) :
    receiveShare f arr s = acceptShare f (advanceTo s arr.now) := by
  unfold receiveShare
  rw [if_pos ((isReady_iff s).2 hr)]
  exact if_pos ((shareAccepted_iff s f arr).2 h)

theorem receiveShare_refused {s : State} {f : ShareFrame} {arr : Arrival} (hr : Ready s) (h : ¬ SharePasses s f arr) :
    receiveShare f arr s = advanceTo s arr.now := by
  unfold receiveShare
  rw [if_pos ((isReady_iff s).2 hr)]
  exact if_neg (mt (shareAccepted_iff s f arr).1 h)

theorem heardEntry_heardTake_same {h : HeardTable} (hlen : h.entries.length = 48) {n : Nat} (h1 : 1 ≤ n) (h48 : n ≤ 48)
    (d : Quad Demand) : heardEntry (heardTake h n d) n = announce d (heardEntry h n) := by
  unfold heardTake
  show ((h.entries.set (n - 1) (announce d (heardEntry h n)))[n - 1]?).getD HeardEntry.blank = _
  rw [List.getElem?_set_self (by omega)]
  rfl

theorem heardEntry_heardTake_other {n m : Nat} (h1 : 1 ≤ n) (hm : 1 ≤ m) (hne : m ≠ n) (h : HeardTable) (d : Quad Demand) :
    heardEntry (heardTake h n d) m = heardEntry h m := by
  unfold heardTake
  show ((h.entries.set (n - 1) (announce d (heardEntry h n)))[m - 1]?).getD HeardEntry.blank = _
  rw [List.getElem?_set_ne (by omega)]
  rfl

/-- The state with the frame's entry taken and the conditions of the round updated (R29, R35, R36). -/
def shareTaken (f : ShareFrame) (s : State) : State :=
  s.setHeard { heardTake s.heard f.station.toNat (shareDemands f) with
    disagreement := s.heard.disagreement || disagrees s f, omission := s.heard.omission || omits s f }

theorem acceptShare_eq (f : ShareFrame) (s : State) :
    acceptShare f s =
      if (disagrees s f && !s.heard.disagreement) = true then giveNotice (shareTaken f s) f.station else shareTaken f s := rfl

theorem disagrees_iff (s : State) (f : ShareFrame) :
    disagrees s f = true ↔ s.heard.tag = some (s.timer.round - 1) ∧ f.map ≠ s.heard.map := by
  unfold disagrees checksMade
  rw [Bool.and_eq_true, decide_eq_true_eq, decide_eq_true_eq]

theorem omits_iff (s : State) (f : ShareFrame) :
    omits s f = true ↔ s.heard.tag = some (s.timer.round - 1) ∧ inMap f.map s.loader.settings.station = false ∧
      inMap s.heard.map s.loader.settings.station = true := by
  unfold omits checksMade
  rw [Bool.and_eq_true, Bool.and_eq_true, decide_eq_true_eq, Bool.not_eq_true', and_assoc]

theorem offerStation_none (s : State) : offerStation s [] = s := rfl

/-- The notice of a disagreement round: caution begins with its entry, or its clean count is cleared (R52). -/
theorem giveNotice_in_caution {s : State} (h : s.walk.caution = true) (n : Byte) :
    giveNotice s n = s.setWalk { s.walk with clean := 0 } := by
  unfold giveNotice noticeCaution
  rw [if_pos h, if_pos h, offerStation_none]

theorem giveNotice_begins {s : State} (h : s.walk.caution = false) (n : Byte) :
    giveNotice s n = offerStation (s.setWalk { s.walk with caution := true, clean := 0, cautionRounds := 0 }) [.cautionOn n] := by
  unfold giveNotice noticeCaution
  rw [if_neg (by simp [h]), if_neg (by simp [h])]

/-- Settles O42: the entry by `heardTake`, the conditions by the two tests on the map, caution by the notice. -/
theorem acceptedShareFrame : Obligations.AcceptedShareFrame := by
  unfold Obligations.AcceptedShareFrame
  refine ⟨fun f arr s hr hp hlen => ⟨receiveShare f arr s, rfl, receiveShare_frame f arr s, ?_⟩,
    fun f arr s hr hp => congrArg Host.Outcome.next (receiveShare_refused hr hp)⟩
  have ⟨⟨h1, h48⟩, _⟩ := hp
  rw [receiveShare_accepted hr hp, acceptShare_eq]
  generalize hs' : advanceTo s arr.now = s'
  have hheard : s'.heard = s.heard := by rw [← hs']; rfl
  have hround : s'.timer.round = s.timer.round := by rw [← hs']; rfl
  have hdis : disagrees s' f = true ↔ s.heard.tag = some (s.timer.round - 1) ∧ f.map ≠ s.heard.map := by
    rw [disagrees_iff, hheard, hround]
  have hom : omits s' f = true ↔ s.heard.tag = some (s.timer.round - 1) ∧ inMap f.map s.loader.settings.station = false ∧
      inMap s.heard.map s.loader.settings.station = true := by
    rw [omits_iff, hheard, hround, ← hs']; rfl
  have hfirst : (disagrees s' f && !s'.heard.disagreement) = true ↔
      s.heard.tag = some (s.timer.round - 1) ∧ f.map ≠ s.heard.map ∧ s.heard.disagreement = false := by
    rw [Bool.and_eq_true, hdis, Bool.not_eq_true', hheard, and_assoc]
  -- The table is the same whether or not the notice is given.
  have htable : ∀ t : State, t.heard = (shareTaken f s').heard →
      heardEntry t.heard f.station.toNat = { heardEntry s.heard f.station.toNat with
        heard := true, demands := f.blocks.map fun b => ⟨b.demand.toInt, b.cls.toNat⟩ } ∧
      (∀ n, 1 ≤ n → n ≠ f.station.toNat → heardEntry t.heard n = heardEntry s.heard n) ∧
      t.heard.map = s.heard.map ∧ t.heard.tag = s.heard.tag ∧
      (t.heard.disagreement = true ↔ s.heard.disagreement = true ∨
        (s.heard.tag = some (s.timer.round - 1) ∧ f.map ≠ s.heard.map)) ∧
      (t.heard.omission = true ↔ s.heard.omission = true ∨ (s.heard.tag = some (s.timer.round - 1) ∧
        inMap f.map s.loader.settings.station = false ∧ inMap s.heard.map s.loader.settings.station = true)) := by
    intro t ht
    rw [ht, ← hdis, ← hom, ← hheard]
    refine ⟨heardEntry_heardTake_same (by rw [hheard]; exact hlen) h1 h48 _,
      fun n hn hne => heardEntry_heardTake_other h1 hn hne s'.heard _, rfl, rfl, Bool.or_eq_true _ _ ▸ Iff.rfl,
      Bool.or_eq_true _ _ ▸ Iff.rfl⟩
  by_cases hf : (disagrees s' f && !s'.heard.disagreement) = true
  · rw [if_pos hf]
    have htests := hfirst.1 hf
    cases hc : s.walk.caution
    · have hc' : (shareTaken f s').walk.caution = false := by rw [← hs']; exact hc
      rw [giveNotice_begins hc']
      obtain ⟨hsame, hother, hmap, htag, hd, ho⟩ := htable (offerStation ((shareTaken f s').setWalk
        { (shareTaken f s').walk with caution := true, clean := 0, cautionRounds := 0 }) [.cautionOn f.station]) rfl
      subst hs'
      exact ⟨rfl, rfl, rfl, rfl, rfl, rfl, hsame, hother, hmap, htag, hd, ho, fun hn => absurd htests hn, nofun,
        fun _ _ => ⟨rfl, rfl⟩⟩
    · have hc' : (shareTaken f s').walk.caution = true := by rw [← hs']; exact hc
      rw [giveNotice_in_caution hc']
      obtain ⟨hsame, hother, hmap, htag, hd, ho⟩ := htable ((shareTaken f s').setWalk { (shareTaken f s').walk with clean := 0 }) rfl
      subst hs'
      exact ⟨rfl, rfl, rfl, rfl, rfl, rfl, hsame, hother, hmap, htag, hd, ho, fun hn => absurd htests hn,
        fun _ _ => ⟨rfl, rfl⟩, nofun⟩
  · rw [if_neg hf]
    obtain ⟨hsame, hother, hmap, htag, hd, ho⟩ := htable (shareTaken f s') rfl
    have htests := mt hfirst.2 hf
    subst hs'
    exact ⟨rfl, rfl, rfl, rfl, rfl, rfl, hsame, hother, hmap, htag, hd, ho, fun _ => ⟨rfl, rfl⟩,
      fun hx => absurd hx htests, fun hx => absurd hx htests⟩

/-! ### The readback of the own share frame (R25, R64) -/

theorem shareOnLine_of {s : State} {f : ShareFrame} {cut : Bool} (h : s.link.line = some (.share f cut)) :
    shareOnLine s = some (f, cut) := by
  unfold shareOnLine; rw [h]

theorem readbackSucceeds_same {k : Byte} {rest : List Byte} (h : kindLength k = some (rest.length + 3)) :
    readbackSucceeds (withCrc (k :: rest)) (withCrc (k :: rest)) false = true := by
  unfold readbackSucceeds
  rw [frameChecks_withCrc k rest h]
  simp

theorem readbackSucceeds_share (f : ShareFrame) : readbackSucceeds (shareBytes f) (shareBytes f) false = true :=
  readbackSucceeds_same rfl

theorem readbackSucceeds_mark (f : MarkFrame) : readbackSucceeds (markBytes f) (markBytes f) false = true :=
  readbackSucceeds_same rfl

theorem readbackSucceeds_bad {sent bytes : List Byte} {cut : Bool} (h : ReadsBadly sent bytes cut) :
    readbackSucceeds sent bytes cut = false := by
  unfold readbackSucceeds
  rcases h with h | h <;> simp [h]

/-- With nothing to report an event without a round start leaves all but the line. -/
theorem settleReports_quiet (s : State) :
    settleReports s Reports.nothing = s.setLink { s.link with line := cutLine s.lock s.member.state s.link.line } := by
  unfold settleReports
  rw [memberReact_nothing]
  rfl

theorem exclusionNotice_eq (ch : Channel) : exclusionNotice ch = noticed ch := by
  unfold exclusionNotice noticed postSecure
  cases hs : ch.state
  all_goals simp

/-- Settles O43: the four outcomes of the readback; the third failure is a number conflict. -/
theorem ownShareReadback : Obligations.OwnShareReadback := by
  unfold Obligations.OwnShareReadback
  refine ⟨fun bytes f s hl => congrArg Host.Outcome.next (readShare_cut (shareOnLine_of hl) bytes), fun f s hl hlen h1 h48 => ?success,
    fun bytes f s hl hb hfails => ?failure, fun bytes f s hl hb hfails hm => ?conflict⟩
  case success =>
    refine ⟨readShare (shareBytes f) s, rfl, readShare_frame _ s, ?_⟩
    rw [readShare_success (shareOnLine_of hl) (readbackSucceeds_share f)]
    exact ⟨rfl, rfl, rfl, rfl, rfl, rfl, rfl, heardEntry_heardTake_same hlen h1 h48 _,
      fun n hn hne => heardEntry_heardTake_other h1 hn hne s.heard _⟩
  case failure =>
    have hcount : failsNow s = s.member.readbackFails + 1 := satInc_below (by simp only [Config.conflictLimit]; omega)
    have hquiet : failReports s = Reports.nothing := by
      have hne : failsNow s ≠ Config.conflictLimit := by rw [hcount]; simp only [Config.conflictLimit]; omega
      unfold failReports
      rw [decide_eq_false hne]
      rfl
    refine ⟨readShare bytes s, rfl, readShare_frame _ s, ?_⟩
    rw [readShare_failure (shareOnLine_of hl) (readbackSucceeds_bad (.inr hb)), hquiet, settleReports_quiet]
    refine ⟨rfl, rfl, rfl, rfl, rfl, rfl, rfl, ?_⟩
    show { s.member with readbackFails := failsNow s } = _
    rw [hcount]
  case conflict =>
    have hcount : failsNow s = 3 := by
      unfold failsNow
      rw [hfails]
      rfl
    have hreact : memberReact (shareFailed s).member (shareFailed s).lock.state (failReports s) none false =
        enterExcluded (shareFailed s).member .excludedConflict :=
      memberReact_conflict hm rfl (decide_eq_true hcount)
    have hread := readShare_failure (shareOnLine_of hl) (readbackSucceeds_bad (cut := false) (.inr hb))
    have hmember : (readShare bytes s).member = { s.member with
        state := .excluded, omissions := 0, dwell := 0, confirmed := false, readbackFails := 3 } := by
      rw [hread, settleReports_member, hreact]
      show { s.member with
        readbackFails := failsNow s, state := .excluded, omissions := 0, dwell := 0, confirmed := false } = _
      rw [hcount]
    have htaken : exec (.numberConflict bytes) s = .next (readShare bytes s) := by
      refine congrArg Host.Outcome.next (if_pos ?_)
      rw [hmember]
      simp [hm]
    have hlock : (readShare bytes s).lock = lockExcluded s.lock := by
      rw [hread, settleReports_lock, hreact]; rfl
    refine ⟨_, htaken, readShare_frame _ s, ?_, ?_, ?_, ?_, hmember, fun hs => ?_, fun hs => ?_, fun k => ?_, ?_⟩
    · rw [hread]; rfl
    · rw [hread, settleReports_walk, hreact]; rfl
    · rw [hread]; rfl
    · rw [hread]; rfl
    · rw [hlock, lockExcluded, if_pos hs]; rfl
    · rw [hlock, lockExcluded, if_neg hs]
    · rw [hread, settleReports_channels, hreact]
      show (s.channels.map exclusionNotice).get k = _
      rw [Quad.get_map, exclusionNotice_eq]
    · rw [hread]
      unfold settleReports
      rw [hreact]
      show offerAll s.capture.station ((pacerEvents (failReports s) s.lock true ++ [StationEvent.excludedConflict]).map
        fun e => Entry.station s.tick e s.timer.round) = _
      cases hpacer : s.lock.pacer <;> simp [pacerEvents, Reports.nothing, hpacer]

end Sys2Proof.Machine
end

section
/-! PROOFS. How an event of the link is settled: what membership, the lock unit, the walk unit, the channels and the station queue hold
after it, with or without a round start (R30, R48 to R73, R112). -/

namespace Sys2Proof.Machine

/-! ### Offers with room -/

theorem offerAll_room {q : EntryQueue} {es : List Entry} (h : q.entries.length + es.length ≤ 4) :
    (offerAll q es).entries = q.entries ++ es := by
  induction es generalizing q with
  | nil => simp
  | cons e es ih =>
    rw [List.length_cons] at h
    rw [offerAll_cons, offer_room e (by omega), ih (by rw [List.length_append, List.length_singleton]; omega),
      List.append_assoc, List.singleton_append]

theorem mem_offerAll {q : EntryQueue} {es : List Entry} {e : Entry} (he : e ∈ es) (h : q.entries.length + es.length ≤ 4) :
    e ∈ (offerAll q es).entries := by
  rw [offerAll_room h]; exact List.mem_append_right _ he

/-! ### The STATION events of an event (R71 to R73) -/

/-- What membership control makes of an event: of a round start, where one falls in it, with its omission report. -/
abbrev settleOut (starts : Bool) (s : State) (r : Reports) : MemberOut :=
  if starts then memberReact s.member s.lock.state r (some s.heard.omission) (Config.freeIslandOmitted s.draws)
  else memberReact s.member s.lock.state r none false

/-- What follows in every block from the lock unit's reports, with or without a round start. -/
def settle (starts : Bool) (s : State) (r : Reports) : State := if starts then settleRound s r else settleReports s r

@[simp] theorem settle_true (s : State) (r : Reports) : settle true s r = settleRound s r := rfl
@[simp] theorem settle_false (s : State) (r : Reports) : settle false s r = settleReports s r := rfl

/-- The entries of membership and of the pacer flag. -/
def lockEvents (starts : Bool) (s : State) (r : Reports) : List StationEvent :=
  pacerEvents r s.lock (settleOut starts s r).excludedNow ++ (settleOut starts s r).event.toList

/-- All STATION events of a settled event, in their order. -/
def settleEvents (starts : Bool) (s : State) (r : Reports) : List StationEvent :=
  if starts then
    eitherOrder (Config.freeWalkFirst s.draws) (cautionReport s.walk s.heard.disagreement).2 (lockEvents starts s r)
  else lockEvents starts s r

theorem settle_queue (starts : Bool) (s : State) (r : Reports) :
    (settle starts s r).capture.station =
      offerAll s.capture.station ((settleEvents starts s r).map fun e => Entry.station s.tick e s.timer.round) := by
  cases starts
  · rfl
  · rw [settle_true]; unfold settleRound; dsimp only; split <;> rfl

theorem mem_eitherOrder (first : Bool) (walk member : List StationEvent) (x : StationEvent) :
    x ∈ eitherOrder first walk member ↔ x ∈ walk ∨ x ∈ member := by
  unfold eitherOrder
  split
  · simp
  · simp
  · split <;> simp only [List.mem_append, or_comm]

theorem eitherOrder_length (first : Bool) (walk member : List StationEvent) :
    (eitherOrder first walk member).length = walk.length + member.length := by
  unfold eitherOrder
  split
  · simp
  · simp
  · split <;> simp only [List.length_append, Nat.add_comm]

theorem cautionReport_events_length (w : WalkUnit) (d : Bool) : (cautionReport w d).2.length ≤ 1 := by
  unfold cautionReport
  split
  · dsimp only
    split
    · exact Nat.zero_le _
    · split
      · exact Nat.le_refl _
      · exact Nat.zero_le _
  · exact Nat.zero_le _

theorem pacerEvents_length (r : Reports) (l : Lock) (x : Bool) : (pacerEvents r l x).length ≤ 1 := by
  unfold pacerEvents
  split
  · exact Nat.le_refl _
  · split
    · exact Nat.le_refl _
    · exact Nat.zero_le _

theorem settleEvents_length (starts : Bool) (s : State) (r : Reports) : (settleEvents starts s r).length ≤ 3 := by
  have hlock : (lockEvents starts s r).length ≤ 2 := by
    unfold lockEvents
    rw [List.length_append]
    have hp := pacerEvents_length r s.lock (settleOut starts s r).excludedNow
    have he : (settleOut starts s r).event.toList.length ≤ 1 := by
      cases (settleOut starts s r).event <;> simp
    omega
  unfold settleEvents
  split
  · rw [eitherOrder_length]
    have := cautionReport_events_length s.walk s.heard.disagreement
    omega
  · omega

/-- A station queue that holds at most one entry takes every entry of the event. -/
theorem settle_entry {starts : Bool} {s : State} {r : Reports} {ev : StationEvent} (h : ev ∈ settleEvents starts s r)
    (hq : s.capture.station.entries.length ≤ 1) :
    .station s.tick ev s.timer.round ∈ (settle starts s r).capture.station.entries := by
  rw [settle_queue]
  refine mem_offerAll (List.mem_map_of_mem h) ?_
  have := settleEvents_length starts s r
  rw [List.length_map]
  omega

theorem mem_settleEvents_of_lock {starts : Bool} {s : State} {r : Reports} {ev : StationEvent} (h : ev ∈ lockEvents starts s r) :
    ev ∈ settleEvents starts s r := by
  unfold settleEvents; split
  · exact (mem_eitherOrder _ _ _ _).2 (.inr h)
  · exact h

theorem mem_settleEvents_of_member {starts : Bool} {s : State} {r : Reports} {ev : StationEvent}
    (h : (settleOut starts s r).event = some ev) : ev ∈ settleEvents starts s r :=
  mem_settleEvents_of_lock (List.mem_append_right _ (by rw [h]; exact List.mem_singleton_self ev))

theorem mem_settleEvents_of_pacer {starts : Bool} {s : State} {r : Reports} {ev : StationEvent} (h : r.pacer = some ev) :
    ev ∈ settleEvents starts s r :=
  mem_settleEvents_of_lock (List.mem_append_left _ (by rw [pacerEvents, h]; exact List.mem_singleton_self ev))

/-! ### The blocks after a settled event -/

theorem settle_member (starts : Bool) (s : State) (r : Reports) :
    (settle starts s r).member = (settleOut starts s r).member := by
  cases starts
  · rfl
  · exact settleRound_member s r

theorem settle_lock (starts : Bool) (s : State) (r : Reports) :
    (settle starts s r).lock = if (settleOut starts s r).excludedNow then lockExcluded s.lock else s.lock := by
  cases starts
  · rfl
  · exact settleRound_lock s r

theorem settle_heard (starts : Bool) (s : State) (r : Reports) :
    (settle starts s r).heard = if starts then clearRound s.heard else s.heard := by
  cases starts
  · rfl
  · exact settleRound_heard s r

theorem settle_phase (starts : Bool) (s : State) (r : Reports) : (settle starts s r).timer.phase = s.timer.phase := by
  cases starts
  · rfl
  · exact settleRound_phase s r

theorem settle_round (starts : Bool) (s : State) (r : Reports) : (settle starts s r).timer.round = s.timer.round := by
  cases starts
  · rfl
  · exact settleRound_roundNumber s r

/-- A channel after a round start: noticed where the station is excluded, then tested against its new grant (R67, R112). -/
theorem settleRound_channel (s : State) (r : Reports) (k : Fin 4) :
    let ch := if (settleOut true s r).excludedNow then noticed (s.channels.get k) else s.channels.get k
    (settleRound s r).channels.get k = starveChannel (demandOf s.loader.settings s.loader.programs k ch).quanta
      ((settleRound s r).walk.grants.get k) ch := by
  have hchs : (settleRound s r).channels = starveAll s.loader.settings s.loader.programs (settleRound s r).walk.grants
      (if (settleOut true s r).excludedNow then s.channels.map exclusionNotice else s.channels) := by
    unfold settleRound; dsimp only; split <;> rfl
  have hget : (if (settleOut true s r).excludedNow then s.channels.map exclusionNotice else s.channels).get k =
      if (settleOut true s r).excludedNow then noticed (s.channels.get k) else s.channels.get k := by
    split
    · rw [Quad.get_map, exclusionNotice_eq]
    · rfl
  dsimp only
  rw [hchs]
  unfold starveAll
  rw [Quad.get_tab, hget]

/-- A station that is not excluded in the event: neither a mismatch nor a conflict is reported. -/
theorem memberReact_not_excluding {m : Membership} {l : LockState} {r : Reports} {round : Option Bool} {first : Bool} (h : Quiet r) :
    (memberReact m l r round first).excludedNow = false := by
  obtain ⟨-, hout⟩ | ⟨-, hr, -⟩ | hout := memberReact_cases (m := m) (l := l) (r := r) (round := round) (first := first)
  · rw [hout]; rfl
  · exact absurd hr h.not_reported
  · exact hout.notNow

theorem settleOut_not_excluding {starts : Bool} {s : State} {r : Reports} (h : Quiet r) :
    (settleOut starts s r).excludedNow = false := by
  cases starts <;> exact memberReact_not_excluding h

theorem settle_lock_quiet {starts : Bool} {s : State} {r : Reports} (h : Quiet r) : (settle starts s r).lock = s.lock := by
  rw [settle_lock, settleOut_not_excluding h]; rfl

theorem settleRound_channel_quiet {s : State} {r : Reports} (h : Quiet r) (k : Fin 4) :
    (settleRound s r).channels.get k =
      starveChannel (demandOf s.loader.settings s.loader.programs k (s.channels.get k)).quanta
        ((settleRound s r).walk.grants.get k) (s.channels.get k) := by
  have hch := settleRound_channel s r k
  rwa [settleOut_not_excluding h] at hch

theorem settle_onlyStarved {starts : Bool} {s : State} {r : Reports} (h : Quiet r) : OnlyStarved s (settle starts s r) := by
  intro k
  cases starts
  · refine ⟨(s.channels.get k).sequencer.counters.starved, ?_⟩
    show (settleReports s r).channels.get k = s.channels.get k
    rw [settleReports_channels, memberReact_not_excluding h]
    rfl
  · rw [settle_true, settleRound_channel_quiet h]
    exact starveChannel_keeps _ _ _

/-- A round start leaves no walk in progress and no pending result (R49). -/
theorem settleRound_results (s : State) (r : Reports) : (settleRound s r).walk.walking = false ∧
    (settleRound s r).walk.pendingHall = none ∧ (settleRound s r).walk.pendingLocal = none := by
  rw [settleRound_walk]; exact ⟨rfl, rfl, rfl⟩

theorem settle_line_none (starts : Bool) {s : State} (h : s.link.line = none) (r : Reports) :
    (settle starts s r).link.line = none := by
  cases starts
  · show cutLine _ _ s.link.line = none
    rw [h]; rfl
  · rw [settle_true, settleRound_line, h]; rfl

/-! ### Reactions of membership control -/

section react
variable {m : Membership} {l : LockState} {r : Reports} {round : Option Bool} {first : Bool}

/-- A loss of lock islands a station in the division; the event names the loss unless the second omission round is reported as
well (R60, R61). -/
theorem memberReact_lost (hm : m.state = .joining ∨ m.state = .joined) (hq : Quiet r) (hl : r.lost = true) :
    ∃ ev, memberReact m l r round first = enterIslanded m ev ∧
      (omitsNow m round = false → ev = .islandedLockLost m.state l) := by
  rw [memberReact_inDivision hm hq.1 hq.2]
  unfold memberInDivision
  rw [if_pos hl]
  split
  · next h => exact ⟨_, rfl, fun hn => by simp [hn] at h⟩
  · exact ⟨_, rfl, fun _ => rfl⟩

/-- Outside the division a loss of lock changes nothing between round starts. -/
theorem memberReact_lost_outside (hm : ¬ (m.state = .joining ∨ m.state = .joined)) (hq : Quiet r) (he : r.entered = false) :
    memberReact m l r none first = .keep m := by
  cases hs : m.state
  case joining => exact absurd (.inl hs) hm
  case joined => exact absurd (.inr hs) hm
  case excluded => exact memberReact_excluded hs
  case outside => rw [memberReact_outside hs hq.1 hq.2, he]; rfl
  case islanded => rw [memberReact_islanded hs hq.1 hq.2]; rfl

/-- With neither a loss nor an entry of lock membership stays between round starts. -/
theorem memberReact_idle (hq : Quiet r) (he : r.entered = false) (hl : r.lost = false) :
    memberReact m l r none first = .keep m := by
  by_cases hm : m.state = .joining ∨ m.state = .joined
  · rw [memberReact_inDivision hm hq.1 hq.2]
    unfold memberInDivision omitsNow
    rw [if_neg (by simp [hl])]
    rfl
  · exact memberReact_lost_outside hm hq he

/-- At a round start with nothing reported a station OUTSIDE or EXCLUDED stays as it is. -/
theorem memberReact_stays (hm : m.state = .outside ∨ m.state = .excluded) (hq : Quiet r) (he : r.entered = false) :
    memberReact m l r round first = .keep m := by
  rcases hm with hm | hm
  · rw [memberReact_outside hm hq.1 hq.2, he]; rfl
  · exact memberReact_excluded hm

/-- The lock unit's entry to LOCKED makes an OUTSIDE station JOINING (R58). -/
theorem memberReact_entered (hm : m.state = .outside) (hq : Quiet r) (he : r.entered = true) :
    memberReact m l r round first = enterJoining m := by
  rw [memberReact_outside hm hq.1 hq.2, he]; rfl

end react

theorem quiet_nothing : Quiet Reports.nothing := ⟨rfl, rfl⟩

/-- The second omission round is not reported. -/
theorem omitsNow_eq_false {m : Membership} {om : Bool} (h : ¬ (om = true ∧ 1 ≤ m.omissions)) : omitsNow m (some om) = false := by
  unfold omitsNow
  rw [Bool.and_eq_false_iff, decide_eq_false_iff_not, decide_eq_false_iff_not]
  by_contra hx
  push Not at hx
  obtain ⟨hom, hcount⟩ := hx
  simp only [Config.omissionLimit] at hcount
  exact h ⟨Option.some.inj hom, by omega⟩

/-- A loss of lock at a round start: the station islands with zero grants (R48, R50, R61). -/
theorem settleRound_lost {s : State} {r : Reports} (hq : Quiet r) (hl : r.lost = true)
    (hm : s.member.state = .joining ∨ s.member.state = .joined) :
    (settleRound s r).member = { s.member with state := .islanded, omissions := 0, dwell := 0, confirmed := false } ∧
    (settleRound s r).walk.grants = Quad.same 0 ∧
    (¬ (s.heard.omission = true ∧ 1 ≤ s.member.omissions) →
      .islandedLockLost s.member.state s.lock.state ∈ settleEvents true s r) := by
  obtain ⟨ev, hout, hev⟩ := memberReact_lost (l := s.lock.state) (round := some s.heard.omission)
    (first := Config.freeIslandOmitted s.draws) hm hq hl
  refine ⟨?_, settleRound_grants_zero s r ?_, fun hom => mem_settleEvents_of_member ?_⟩
  · rw [settleRound_member, hout]; rfl
  · rw [hout]; rfl
  · show (memberReact _ _ _ _ _).event = _
    rw [hout, hev (omitsNow_eq_false hom)]; rfl

end Sys2Proof.Machine
end

section
/-! PROOFS. What the lock unit makes of a mark, and what a mark does to the station (R8 to R12, R20 to R22, R61, R65, R67). -/

namespace Sys2Proof.Machine

/-! ### The lock unit's judgement of a mark -/

/-- The mismatch a mark reports: the sender's number where the digests differ and the station is not EXCLUDED (R21, R22). -/
def markMismatch (digest : Word) (excluded : Bool) (f : MarkFrame) : Option Byte :=
  if (!excluded && decide (f.digest ≠ digest)) = true then some f.station else none

section lock
variable {n : Nat} {digest : Word} {excluded : Bool} {l : Lock} {f : MarkFrame} {place : MarkPlace}

theorem not_differs (h : f.digest = digest ∨ excluded = true) : (!excluded && decide (f.digest ≠ digest)) = false := by
  rcases h with h | h <;> simp [h]

theorem markMismatch_valid (h : f.digest = digest ∨ excluded = true) : markMismatch digest excluded f = none := by
  unfold markMismatch; rw [not_differs h]; rfl

theorem markMismatch_differs (h : f.digest ≠ digest) : markMismatch digest false f = some f.station :=
  if_pos (by simp [h])

/-- From SEARCH every mark starts acquisition (R10). -/
theorem lockMark_search (h : l.state = .search) : lockMark n digest excluded l f place =
    .followed ⟨beginAcquire l, { Reports.nothing with mismatch := markMismatch digest excluded f }⟩ true := by
  unfold lockMark; rw [h]; rfl

/-- In ACQUIRE every mark is followed; one that differs, or comes while EXCLUDED, does not lock (R12, R21, R22). -/
theorem lockMark_acquire (h : l.state = .acquire) : lockMark n digest excluded l f place =
    .followed (acquireMark l place (!excluded && !(!excluded && decide (f.digest ≠ digest))) (markMismatch digest excluded f))
      (startsRound place) := by
  unfold lockMark; rw [h]; rfl

/-- A pacer yields to a lower number (R20). -/
theorem lockMark_yields (h : l.state = .locked) (hp : l.pacer = true) (hn : f.station.toNat < n) :
    lockMark n digest excluded l f place = .followed ⟨beginAcquire l, { Reports.nothing with
      lost := true, mismatch := markMismatch digest excluded f, pacer := some (.pacerYielded f.station) }⟩ true := by
  unfold lockMark; rw [h]; dsimp only; rw [if_pos hp, if_pos hn]; rfl

/-- A pacer ignores its own number and higher ones (R20). -/
theorem lockMark_ignores (h : l.state = .locked) (hp : l.pacer = true) (hn : n ≤ f.station.toNat) :
    lockMark n digest excluded l f place = .ignored := by
  unfold lockMark; rw [h]; dsimp only; rw [if_pos hp, if_neg (Nat.not_lt.2 hn)]

/-- A LOCKED follower loses lock by a mark that differs or lies out of the window (R14, R21). -/
theorem lockMark_loses (h : l.state = .locked) (hp : l.pacer = false)
    (hd : (!excluded && decide (f.digest ≠ digest)) = true ∨ place = .outside) :
    lockMark n digest excluded l f place = .followed ⟨beginAcquire l, { Reports.nothing with
      lost := true, mismatch := markMismatch digest excluded f }⟩ true := by
  unfold lockMark; rw [h]; dsimp only; rw [if_neg (by simp [hp]), if_pos hd]; rfl

/-- A LOCKED follower follows an in-window mark (R14). -/
theorem lockMark_follows (h : l.state = .locked) (hp : l.pacer = false) (hv : f.digest = digest ∨ excluded = true)
    (hin : place ≠ .outside) :
    lockMark n digest excluded l f place = .followed ⟨{ l with missed := 0 }, Reports.nothing⟩ (startsRound place) := by
  have hd : ¬ ((!excluded && decide (f.digest ≠ digest)) = true ∨ place = .outside) := by
    rw [not_differs hv]; simp [hin]
  unfold lockMark; rw [h]; dsimp only; rw [if_neg (by simp [hp]), if_neg hd]

/-- An in-window mark in ACQUIRE raises the lock count, and locks at its limit where it may (R12). -/
theorem acquireMark_inside {mayLock : Bool} {mismatch : Option Byte} (hin : place ≠ .outside) :
    acquireMark l place mayLock mismatch =
      if satInc l.lockCount Config.lockLimit = Config.lockLimit ∧ mayLock = true then
        ⟨{ l with lockCount := satInc l.lockCount Config.lockLimit, missed := 0, state := .locked },
          { Reports.nothing with entered := true, mismatch := mismatch }⟩
      else ⟨{ l with lockCount := satInc l.lockCount Config.lockLimit, missed := 0 },
        { Reports.nothing with mismatch := mismatch }⟩ := by
  cases place
  · rfl
  · rfl
  · exact absurd rfl hin

/-- A mark in ACQUIRE clears the missed-mark count and reports its mismatch (R12). -/
theorem acquireMark_always (mayLock : Bool) (mismatch : Option Byte) :
    (acquireMark l place mayLock mismatch).lock.missed = 0 ∧ (acquireMark l place mayLock mismatch).lock.pacer = l.pacer ∧
    (acquireMark l place mayLock mismatch).reports.mismatch = mismatch ∧
    (acquireMark l place mayLock mismatch).reports.conflict = false := by
  by_cases hin : place = .outside
  · rw [hin]; exact ⟨rfl, rfl, rfl, rfl⟩
  · rw [acquireMark_inside hin]; split <;> exact ⟨rfl, rfl, rfl, rfl⟩

/-- A mark that may not lock leaves ACQUIRE as it is. -/
theorem acquireMark_stays (h : l.state = .acquire) (mismatch : Option Byte) :
    (acquireMark l place false mismatch).lock.state = .acquire := by
  by_cases hin : place = .outside
  · rw [hin]; exact h
  · rw [acquireMark_inside hin, if_neg (by simp)]; exact h

/-- Below its last count an in-window mark leaves ACQUIRE as it is. -/
theorem acquireMark_counts (h : l.state = .acquire) {mayLock : Bool} {mismatch : Option Byte} (hc : l.lockCount < 31) :
    (acquireMark l place mayLock mismatch).lock.state = .acquire := by
  by_cases hin : place = .outside
  · rw [hin]; exact h
  · have hcount : satInc l.lockCount Config.lockLimit = l.lockCount + 1 :=
      satInc_below (show l.lockCount < 32 by omega)
    have hbelow : l.lockCount + 1 ≠ Config.lockLimit := show l.lockCount + 1 ≠ 32 by omega
    rw [acquireMark_inside hin, hcount, if_neg (fun hx => hbelow hx.1)]; exact h

theorem acquireMark_lockCount (hin : place ≠ .outside) (mayLock : Bool) (mismatch : Option Byte) :
    (acquireMark l place mayLock mismatch).lock.lockCount = satInc l.lockCount 32 := by
  rw [acquireMark_inside hin]; split <;> rfl

end lock

/-! ### A mark that is followed -/

/-- The lock unit once the round start of a mark, where there is one, has counted its backoff down (R19). -/
abbrev markLock (starts : Bool) (l : Lock) : Lock := if starts then backoffDown l else l

/-- The lock unit's judgement of a mark, at the place the mark has when its check completes. -/
abbrev judged (s : State) (f : MarkFrame) (arr : Arrival) : MarkOut :=
  lockMark s.loader.settings.station s.loader.digest (decide (s.member.state = .excluded)) s.lock f (placeOf s arr)

section mark
variable {f : MarkFrame} {arr : Arrival} {s : State} {out : LockOut} {starts : Bool}

theorem receiveMark_settled (h : Ready s) (hj : judged s f arr = .followed out starts) :
    receiveMark f arr s = settle starts (rephased s f arr (markLock starts out.lock)) out.reports := by
  cases starts
  · exact receiveMark_reports h hj
  · exact receiveMark_round h hj

/-- A mark that is followed sets the timer by itself (R9). -/
theorem receiveMark_rephased (h : Ready s) (hj : judged s f arr = .followed out starts) :
    Rephased s (receiveMark f arr s) f arr := by
  rw [receiveMark_settled h hj]
  exact ⟨settle_phase _ _ _, settle_round _ _ _⟩

theorem receiveMark_heard (h : Ready s) (hj : judged s f arr = .followed out starts) :
    (receiveMark f arr s).heard = if starts then clearRound s.heard else s.heard := by
  rw [receiveMark_settled h hj]; exact settle_heard _ _ _

/-- A followed mark that reports no mismatch leaves the lock unit's own result, and of the channels at most the starved-round
counts change. -/
theorem receiveMark_quiet (h : Ready s) (hj : judged s f arr = .followed out starts) (hq : Quiet out.reports) :
    (receiveMark f arr s).lock = markLock starts out.lock ∧ OnlyStarved s (receiveMark f arr s) := by
  rw [receiveMark_settled h hj]
  exact ⟨settle_lock_quiet hq, settle_onlyStarved (s := rephased s f arr (markLock starts out.lock)) hq⟩

/-- With nothing reported membership stays between round starts. -/
theorem receiveMark_nothing (h : Ready s) {l : Lock} (hj : judged s f arr = .followed ⟨l, Reports.nothing⟩ false) :
    QuietFrame s (receiveMark f arr s) := by
  refine ⟨receiveMark_frame f arr s, ?_⟩
  rw [receiveMark_settled h hj, settle_false, settleReports_quiet]
  exact ⟨rfl, rfl, rfl, rfl, rfl⟩

/-- A followed mark that loses lock islands a station in the division, with the entry that names the loss (R50, R61, R62). -/
theorem receiveMark_lost (h : Ready s) (hj : judged s f arr = .followed out true) (hq : Quiet out.reports)
    (hl : out.reports.lost = true) (ha : out.lock.state = .acquire) :
    Islanded s (receiveMark f arr s) ∧ LockLostEntry s (receiveMark f arr s) := by
  have ht := receiveMark_settled h hj
  have hres := settleRound_results (rephased s f arr (markLock true out.lock)) out.reports
  have hlost := settleRound_lost (s := rephased s f arr (markLock true out.lock)) hq hl
  refine ⟨fun hm => ?_, fun hm hom hlen => ?_⟩
  · obtain ⟨hmember, hgrants, -⟩ := hlost hm
    obtain ⟨-, hhall, hlocal⟩ := hres
    rw [ht]
    exact ⟨hmember, hgrants, hhall, hlocal⟩
  · obtain ⟨-, -, hev⟩ := hlost hm
    have hin := settle_entry (hev hom) hlen
    rw [receiveMark_rephased h hj |>.2, ht]
    rw [show (rephased s f arr (markLock true out.lock)).lock.state = .acquire from ha] at hin
    exact hin

end mark

/-- A valid mark in the words of the lock unit. -/
theorem ValidMark.judged {s : State} {f : MarkFrame} (h : ValidMark s f) :
    f.digest = s.loader.digest ∨ decide (s.member.state = .excluded) = true :=
  h.imp_right decide_eq_true

end Sys2Proof.Machine
end

section
/-! PROOFS. Marks in SEARCH, ACQUIRE and LOCKED, at a pacer, and of a differing hall (R8 to R12, R14, R20 to R22, R58, R65). -/

namespace Sys2Proof.Machine

section
variable {f : MarkFrame} {arr : Arrival} {s : State}

theorem judged_search (h : s.lock.state = .search) (hv : ValidMark s f) :
    judged s f arr = .followed ⟨beginAcquire s.lock, Reports.nothing⟩ true := by
  rw [judged, lockMark_search h, markMismatch_valid hv.judged]; rfl

/-- A valid mark in ACQUIRE may lock unless the station is EXCLUDED (R12, R22). -/
theorem judged_acquire (h : s.lock.state = .acquire) (hv : ValidMark s f) :
    judged s f arr = .followed (acquireMark s.lock (placeOf s arr) (!decide (s.member.state = .excluded)) none)
      (startsRound (placeOf s arr)) := by
  rw [judged, lockMark_acquire h, markMismatch_valid hv.judged, not_differs hv.judged, Bool.not_false, Bool.and_true]

theorem judged_follows (h : s.lock.state = .locked) (hp : s.lock.pacer = false) (hv : ValidMark s f)
    (hin : placeOf s arr ≠ .outside) :
    judged s f arr = .followed ⟨{ s.lock with missed := 0 }, Reports.nothing⟩ (startsRound (placeOf s arr)) :=
  lockMark_follows h hp hv.judged hin

theorem judged_outside (h : s.lock.state = .locked) (hp : s.lock.pacer = false) (hv : ValidMark s f)
    (hout : placeOf s arr = .outside) :
    judged s f arr = .followed ⟨beginAcquire s.lock, { Reports.nothing with lost := true }⟩ true := by
  rw [judged, lockMark_loses h hp (.inr hout), markMismatch_valid hv.judged]; rfl

theorem judged_yields (h : s.lock.state = .locked) (hp : s.lock.pacer = true) (hv : ValidMark s f)
    (hn : f.station.toNat < s.loader.settings.station) :
    judged s f arr = .followed ⟨beginAcquire s.lock,
      { Reports.nothing with lost := true, pacer := some (.pacerYielded f.station) }⟩ true := by
  rw [judged, lockMark_yields h hp hn, markMismatch_valid hv.judged]; rfl

/-- The reports of a valid mark in ACQUIRE name neither a mismatch nor a conflict. -/
theorem acquireMark_quiet (l : Lock) (place : MarkPlace) (mayLock : Bool) : Quiet (acquireMark l place mayLock none).reports :=
  ⟨(acquireMark_always mayLock none).2.2.1, (acquireMark_always mayLock none).2.2.2⟩

end

theorem markLock_missed (starts : Bool) (l : Lock) : (markLock starts l).missed = l.missed := by cases starts <;> rfl
theorem markLock_state (starts : Bool) (l : Lock) : (markLock starts l).state = l.state := by cases starts <;> rfl
theorem markLock_lockCount (starts : Bool) (l : Lock) : (markLock starts l).lockCount = l.lockCount := by cases starts <;> rfl
theorem markLock_pacer (starts : Bool) (l : Lock) : (markLock starts l).pacer = l.pacer := by cases starts <;> rfl

/-- The entry to LOCKED makes an OUTSIDE station JOINING, with or without a round start (R58). -/
theorem settleOut_entered {starts : Bool} {s : State} {r : Reports} (hm : s.member.state = .outside) (hq : Quiet r)
    (he : r.entered = true) : settleOut starts s r = enterJoining s.member := by
  cases starts <;> exact memberReact_entered hm hq he

/-- The mark that locks makes an OUTSIDE station JOINING, with its entry (R58, R72). -/
theorem receiveMark_entered {f : MarkFrame} {arr : Arrival} {s : State} {out : LockOut} {starts : Bool} (h : Ready s)
    (hj : judged s f arr = .followed out starts) (hq : Quiet out.reports) (he : out.reports.entered = true)
    (hm : s.member.state = .outside) :
    (receiveMark f arr s).member =
      { s.member with state := .joining, omissions := 0, confirmed := false, joinRounds := 0 } ∧
    (s.capture.station.entries.length ≤ 1 →
      .station s.tick (.memberJoining .outside) f.round ∈ (receiveMark f arr s).capture.station.entries) := by
  have hout := settleOut_entered (starts := starts) (s := rephased s f arr (markLock starts out.lock)) hm hq he
  rw [receiveMark_settled h hj]
  refine ⟨?_, fun hlen => settle_entry (mem_settleEvents_of_member ?_) hlen⟩
  · rw [settle_member, hout]; rfl
  · rw [hout]
    show some (StationEvent.memberJoining s.member.state) = _
    rw [hm]

/-- Settles O36: the first mark, the marks counted in ACQUIRE, and the one that locks. -/
theorem marksInSearchAndAcquire : Obligations.MarksInSearchAndAcquire := by
  unfold Obligations.MarksInSearchAndAcquire
  refine ⟨fun f arr s h hs hv => ?search, fun f arr s h hs hv => ?acquire, fun f arr s h hs hd hm hcount hin => ?enters⟩
  case search =>
    have hj := judged_search (arr := arr) hs hv
    obtain ⟨hlock, hstarved⟩ := receiveMark_quiet h hj quiet_nothing
    have hres := settleRound_results (rephased s f arr (markLock true (beginAcquire s.lock))) Reports.nothing
    have ht := receiveMark_settled h hj
    rw [settle_true] at ht
    obtain ⟨hwalking, hhall, hlocal⟩ := hres
    refine ⟨receiveMark f arr s, rfl, receiveMark_frame f arr s, hstarved, receiveMark_rephased h hj, hlock,
      receiveMark_heard h hj, ?_⟩
    rw [ht]
    refine ⟨hhall, hlocal, hwalking, fun hm => ?_⟩
    rw [settleRound_member]
    exact congrArg MemberOut.member (memberReact_stays (m := s.member) hm quiet_nothing rfl)
  case acquire =>
    have hj := judged_acquire (arr := arr) hs hv
    obtain ⟨hlock, hstarved⟩ := receiveMark_quiet h hj (acquireMark_quiet _ _ _)
    obtain ⟨hmissed, -⟩ := acquireMark_always (l := s.lock) (place := placeOf s arr)
      (!decide (s.member.state = .excluded)) none
    refine ⟨receiveMark f arr s, rfl, receiveMark_frame f arr s, hstarved, receiveMark_rephased h hj, ?_⟩
    rw [receiveMark_heard h hj, hlock, markLock_missed, markLock_state, markLock_lockCount]
    refine ⟨hmissed, fun hp => ?_, fun hp => acquireMark_lockCount hp _ _, fun hp hwhy => ?_, fun hp => ?_, fun hp => ?_⟩
    · rw [hp]; exact ⟨hs, rfl, rfl⟩
    · rcases hwhy with hcount | hm
      · exact acquireMark_counts hs hcount
      · rw [decide_eq_true hm]; exact acquireMark_stays hs none
    · rw [hp]; rfl
    · rw [hp]; rfl
  case enters =>
    have hj := judged_acquire (arr := arr) hs (.inl hd)
    rw [decide_eq_false hm, acquireMark_inside hin, if_pos (by rw [hcount]; decide)] at hj
    obtain ⟨hlock, hstarved⟩ := receiveMark_quiet h hj ⟨rfl, rfl⟩
    have hlocked : (receiveMark f arr s).lock.state = .locked := by rw [hlock, markLock_state]
    have hcame : (decide (s.lock.state = .acquire) && decide ((receiveMark f arr s).lock.state = .locked)) = true := by
      rw [decide_eq_true hs, decide_eq_true hlocked]; rfl
    refine ⟨receiveMark f arr s, congrArg Host.Outcome.next (if_pos hcame), receiveMark_frame f arr s, hstarved,
      receiveMark_rephased h hj, hlocked, ?_⟩
    rw [hlock, markLock_missed, markLock_lockCount, markLock_pacer]
    exact ⟨show satInc s.lock.lockCount 32 = 32 by rw [hcount]; decide, rfl, rfl,
      receiveMark_entered h hj ⟨rfl, rfl⟩ rfl⟩

/-- Settles O37: in-window marks by their place, and the out-of-window mark that loses lock. -/
theorem lockedFollowerFollowsMarks : Obligations.LockedFollowerFollowsMarks := by
  unfold Obligations.LockedFollowerFollowsMarks
  intro f arr s h hs hp hv
  by_cases hout : placeOf s arr = .outside
  · have hj := judged_outside hs hp hv hout
    obtain ⟨hlock, hstarved⟩ := receiveMark_quiet h hj ⟨rfl, rfl⟩
    obtain ⟨hislanded, hentry⟩ := receiveMark_lost h hj ⟨rfl, rfl⟩ rfl rfl
    exact ⟨receiveMark f arr s, rfl, receiveMark_frame f arr s, hstarved, receiveMark_rephased h hj,
      fun hx => absurd (hx.symm.trans hout) (by decide), fun hx => absurd (hx.symm.trans hout) (by decide),
      fun _ => ⟨hlock, receiveMark_heard h hj, hislanded, hentry⟩⟩
  · have hj := judged_follows hs hp hv hout
    obtain ⟨hlock, hstarved⟩ := receiveMark_quiet h hj quiet_nothing
    refine ⟨receiveMark f arr s, rfl, receiveMark_frame f arr s, hstarved, receiveMark_rephased h hj, fun hx => ?_,
      fun hx => ?_, fun hx => absurd hx hout⟩
    · rw [hx] at hj hlock
      exact ⟨receiveMark_nothing h hj, hlock⟩
    · have hheard := receiveMark_heard h hj
      rw [hx] at hlock hheard
      exact ⟨hlock, hheard⟩

/-- Settles O40: a lower number ends the pacer role and loses lock, any other mark is ignored. -/
theorem pacerYieldsToALowerMark : Obligations.PacerYieldsToALowerMark := by
  unfold Obligations.PacerYieldsToALowerMark
  refine ⟨fun f arr s h hs hp hv hn => ?_, fun f arr s h hs hp hn => ?_⟩
  · have hj := judged_yields (arr := arr) hs hp hv hn
    obtain ⟨hlock, hstarved⟩ := receiveMark_quiet h hj ⟨rfl, rfl⟩
    obtain ⟨hislanded, hentry⟩ := receiveMark_lost h hj ⟨rfl, rfl⟩ rfl rfl
    refine ⟨receiveMark f arr s, rfl, receiveMark_frame f arr s, hstarved, receiveMark_rephased h hj, hlock,
      receiveMark_heard h hj, hislanded, hentry, fun hlen => ?_⟩
    rw [receiveMark_settled h hj]
    exact settle_entry (mem_settleEvents_of_pacer rfl) hlen
  · exact congrArg Host.Outcome.next (receiveMark_ignored h (lockMark_ignores hs hp hn))

/-! ### A mark of a differing hall -/

/-- A mark of a differing hall is followed, except at a pacer that ignores it: it reports the mismatch and leads to ACQUIRE, from LOCKED
with a loss of lock and a round start (R21). -/
theorem judged_differs {f : MarkFrame} {arr : Arrival} {s : State} (hm : s.member.state ≠ .excluded)
    (hd : f.digest ≠ s.loader.digest)
    (hp : s.lock.pacer = true → s.lock.state = .locked ∧ f.station.toNat < s.loader.settings.station) :
    ∃ out starts, judged s f arr = .followed out starts ∧ out.reports.mismatch = some f.station ∧
      out.lock.state = .acquire ∧ out.lock.pacer = false ∧ (s.lock.state ≠ .acquire → out.lock.lockCount = 1) ∧
      (s.lock.state = .locked → out.reports.lost = true ∧ starts = true) := by
  have hmis : markMismatch s.loader.digest (decide (s.member.state = .excluded)) f = some f.station := by
    rw [decide_eq_false hm, markMismatch_differs hd]
  have hdiffers : (!decide (s.member.state = .excluded) && decide (f.digest ≠ s.loader.digest)) = true := by
    rw [decide_eq_false hm, decide_eq_true hd]; rfl
  cases hs : s.lock.state with
  | search =>
    refine ⟨_, _, lockMark_search hs, hmis, rfl, rfl, fun _ => rfl, nofun⟩
  | acquire =>
    have hpacer : s.lock.pacer = false := by
      cases hx : s.lock.pacer
      · rfl
      · exact absurd ((hp hx).1.symm.trans hs) (by decide)
    refine ⟨_, _, lockMark_acquire hs, ?_, ?_, ?_, fun hne => absurd rfl hne, nofun⟩
    · rw [(acquireMark_always _ _).2.2.1]; exact hmis
    · rw [hdiffers, Bool.not_true, Bool.and_false]; exact acquireMark_stays hs _
    · rw [(acquireMark_always _ _).2.1]; exact hpacer
  | locked =>
    cases hx : s.lock.pacer
    · exact ⟨_, _, lockMark_loses hs hx (.inl hdiffers), hmis, rfl, rfl, fun _ => rfl, fun _ => ⟨rfl, rfl⟩⟩
    · exact ⟨_, _, lockMark_yields hs hx (hp hx).2, hmis, rfl, rfl, fun _ => rfl, fun _ => ⟨rfl, rfl⟩⟩

theorem noticed_state (ch : Channel) : (noticed ch).state = ch.state := by
  unfold noticed; split
  · rfl
  · split <;> rfl

theorem noticed_sequencer (ch : Channel) : (noticed ch).sequencer = ch.sequencer := by
  unfold noticed; split
  · rfl
  · split <;> rfl

theorem starveChannel_of_not_running {d g : Int} {ch : Channel} (h : ch.state ≠ .running) : starveChannel d g ch = ch :=
  if_neg fun hx => h hx.1

/-- The channels of a station that is excluded in an event: each has its notice, and a round start in the event counts its
starved round (R67, R112). -/
theorem settle_noticed {starts : Bool} {s : State} {r : Reports} (h : (settleOut starts s r).excludedNow = true) (k : Fin 4) :
    ((s.channels.get k).state ≠ .running → (settle starts s r).channels.get k = noticed (s.channels.get k)) ∧
    ∃ n, (settle starts s r).channels.get k = { noticed (s.channels.get k) with
      sequencer := { (s.channels.get k).sequencer with
        counters := { (s.channels.get k).sequencer.counters with starved := n } } } := by
  cases starts
  · have hch : (settle false s r).channels.get k = noticed (s.channels.get k) := by
      have hx : (memberReact s.member s.lock.state r none false).excludedNow = true := h
      rw [settle_false, settleReports_channels, hx, if_pos rfl, Quad.get_map, exclusionNotice_eq]
    refine ⟨fun _ => hch, (s.channels.get k).sequencer.counters.starved, ?_⟩
    rw [hch, ← noticed_sequencer]
  · have hch := settleRound_channel s r k
    rw [h] at hch
    rw [settle_true, hch]
    refine ⟨fun hstate => starveChannel_of_not_running (by rw [if_pos rfl, noticed_state]; exact hstate), ?_⟩
    obtain ⟨n, hn⟩ := starveChannel_keeps (demandOf s.loader.settings s.loader.programs k (noticed (s.channels.get k))).quanta
      ((settleRound s r).walk.grants.get k) (noticed (s.channels.get k))
    refine ⟨n, ?_⟩
    rw [if_pos rfl, hn, noticed_sequencer]

theorem lockExcluded_of_not_locked {l : Lock} (h : l.state ≠ .locked) : lockExcluded l = l := if_neg h

/-- Settles O41: the mismatch excludes the station, the lock unit is in ACQUIRE, and every channel has its notice. -/
theorem hallMismatchExcludes : Obligations.HallMismatchExcludes := by
  unfold Obligations.HallMismatchExcludes
  intro f arr s h hm hd hp
  obtain ⟨out, starts, hj, hmis, hstate, hpacer, hcount, hlost⟩ := judged_differs (arr := arr) hm hd hp
  have hout : settleOut starts (rephased s f arr (markLock starts out.lock)) out.reports =
      enterExcluded s.member (.excludedMismatch f.station) := by
    cases starts <;> exact memberReact_mismatch hm hmis
  have hlock : (settle starts (rephased s f arr (markLock starts out.lock)) out.reports).lock = markLock starts out.lock := by
    rw [settle_lock, hout]
    refine lockExcluded_of_not_locked ?_
    show (markLock starts out.lock).state ≠ .locked
    rw [markLock_state, hstate]; decide
  refine ⟨receiveMark f arr s, rfl, receiveMark_frame f arr s, receiveMark_rephased h hj, ?_⟩
  rw [receiveMark_settled h hj, hlock, settle_member, hout, markLock_state, markLock_pacer, markLock_lockCount]
  refine ⟨rfl, hstate, hpacer, hcount, fun hlocked => ?_, fun k => ?_, fun hlen => ?_⟩
  · obtain ⟨hl, rfl⟩ := hlost hlocked
    exact settleRound_grants_excluded (rephased s f arr _) _ _ hmis hl hm
  · exact settle_noticed (s := rephased s f arr (markLock starts out.lock)) (by rw [hout]; rfl) k
  · exact settle_entry (mem_settleEvents_of_member (by rw [hout]; rfl)) hlen

end Sys2Proof.Machine
end

section
/-! PROOFS. Missed marks: the passed window and the failed readback, the coast limit, the return to SEARCH and the failed claim (R12 to R15,
R18). -/

namespace Sys2Proof.Machine

theorem windowOpen_iff (s : State) : windowOpen s = true ↔ WindowOpen s := by
  unfold windowOpen windowEvaluated WindowOpen
  simp only [Bool.and_eq_true, Bool.or_eq_true, decide_eq_true_eq, Bool.not_eq_true', isReady_iff]
  exact ⟨fun ⟨⟨hr, hl⟩, hs⟩ => ⟨hr, hs, hl⟩, fun ⟨hr, hs, hl⟩ => ⟨⟨hr, hl⟩, hs⟩⟩

/-! ### The lock unit at a passed window and at a failed readback -/

section lock
variable {n : Nat} {l : Lock}

theorem satInc_missed (h : l.missed < 16) : satInc l.missed Config.missedLimit = l.missed + 1 := satInc_below h

/-- A passed window in ACQUIRE counts a missed mark where it does not return to SEARCH (R12, R13, R22). -/
theorem lockWindow_acquire_counts {excluded : Bool} (h : l.state = .acquire)
    (hx : satInc l.missed Config.missedLimit ≠ Config.missedLimit ∨ excluded = true) :
    lockWindow n excluded l = ⟨{ l with lockCount := 0, missed := satInc l.missed Config.missedLimit }, Reports.nothing⟩ := by
  unfold lockWindow; rw [h]; dsimp only
  rw [if_neg]
  rintro ⟨hc, he⟩
  rcases hx with hx | hx
  · exact hx hc
  · rw [hx] at he; cases he

/-- The sixteenth missed mark in ACQUIRE returns to SEARCH (R13). -/
theorem lockWindow_returns (h : l.state = .acquire) (hm : l.missed = 15) :
    lockWindow n false l = ⟨enterSearch n l, Reports.nothing⟩ := by
  unfold lockWindow; rw [h]; dsimp only
  rw [if_pos]; rw [hm]; decide

theorem lockWindow_locked_counts {excluded : Bool} (h : l.state = .locked) (hm : l.missed < 15) :
    lockWindow n excluded l = ⟨{ l with missed := l.missed + 1 }, Reports.nothing⟩ := by
  have hc : satInc l.missed Config.missedLimit = l.missed + 1 := satInc_missed (by omega)
  unfold lockWindow; rw [h]; dsimp only
  have hne : l.missed + 1 ≠ Config.missedLimit := show l.missed + 1 ≠ 16 by omega
  rw [hc, if_neg hne]

/-- The sixteenth missed mark in LOCKED loses lock (R15). -/
theorem lockWindow_coasts {excluded : Bool} (h : l.state = .locked) (hm : l.missed = 15) :
    lockWindow n excluded l = ⟨enterSearch n l, { Reports.nothing with lost := true }⟩ := by
  unfold lockWindow; rw [h]; dsimp only
  rw [if_pos (by rw [hm]; rfl)]

theorem lockReadback_good (detail : Bool) (hp : l.pacer = true) :
    lockReadback n detail true l = ⟨{ l with claimFails := 0, missed := 0 }, Reports.nothing⟩ := by
  unfold lockReadback; rw [if_pos hp]; rfl

/-- A first failed readback counts (R18). -/
theorem lockReadback_fails (detail : Bool) (hp : l.pacer = true) (hm : l.missed < 15) (hc : l.claimFails = 0) :
    lockReadback n detail false l = ⟨{ l with claimFails := 1, missed := l.missed + 1 }, Reports.nothing⟩ := by
  have hclaim : decide (Config.claimLimit ≤ l.claimFails + 1) = false := by rw [hc]; rfl
  have hcoast : decide (Config.missedLimit ≤ l.missed + 1) = false :=
    decide_eq_false (show ¬ 16 ≤ l.missed + 1 by omega)
  unfold lockReadback; rw [if_pos hp, if_neg (by decide)]; dsimp only
  rw [hclaim, hcoast, hc]; rfl

/-- A second failed readback ends the claim (R18). -/
theorem lockReadback_claim_fails (detail : Bool) (hp : l.pacer = true) (hm : l.missed < 15) (hc : l.claimFails = 1) :
    lockReadback n detail false l =
      ⟨{ l with pacer := false, claimFails := 0, backoff := n, missed := l.missed + 1 },
        { Reports.nothing with pacer := some (.pacerClaimFailed n) }⟩ := by
  have hclaim : decide (Config.claimLimit ≤ l.claimFails + 1) = true := by rw [hc]; rfl
  have hcoast : decide (Config.missedLimit ≤ l.missed + 1) = false :=
    decide_eq_false (show ¬ 16 ≤ l.missed + 1 by omega)
  unfold lockReadback; rw [if_pos hp, if_neg (by decide)]; dsimp only
  rw [hclaim, hcoast]; rfl

/-- The sixteenth missed mark of a pacer loses lock; its entry names the coast limit, or the failed claim where that ends as well
(R15, R18). -/
theorem lockReadback_coasts (detail : Bool) (hp : l.pacer = true) (hm : l.missed = 15) :
    ∃ l' ev, lockReadback n detail false l =
        ⟨enterSearch n l', { Reports.nothing with lost := true, pacer := some ev }⟩ ∧
      (ev = .pacerCoastLimit ∨ (1 ≤ l.claimFails ∧ ev = .pacerClaimFailed n)) := by
  have hcoast : decide (Config.missedLimit ≤ l.missed + 1) = true := by rw [hm]; rfl
  unfold lockReadback; rw [if_pos hp, if_neg (by decide)]; dsimp only
  rw [hcoast, if_pos rfl]
  refine ⟨_, _, rfl, ?_⟩
  split
  · next h =>
    rw [Bool.and_eq_true, decide_eq_true_eq] at h
    obtain ⟨hc, -⟩ := h
    exact .inr ⟨Nat.le_of_succ_le_succ hc, rfl⟩
  · exact .inl rfl

end lock

/-! ### A loss of lock between round starts -/

/-- A loss of lock that starts no round: the lock unit keeps its own result, the channels stay, a station in the division islands
with zero grants, and the entries are the pacer's and the loss (R50, R61, R71). -/
theorem settleReports_lost {s : State} {r : Reports} (hq : Quiet r) (hl : r.lost = true) (he : r.entered = false) :
    (settleReports s r).lock = s.lock ∧ (settleReports s r).channels = s.channels ∧ Islanded s (settleReports s r) ∧
    (settleReports s r).capture.station = offerAll s.capture.station
      ((r.pacer.toList.map fun ev => .station s.tick ev s.timer.round) ++ lockLostEntries s s.lock.state) := by
  have hnot : (memberReact s.member s.lock.state r none false).excludedNow = false := memberReact_not_excluding hq
  refine ⟨settle_lock_quiet (starts := false) hq, by rw [settleReports_channels, hnot]; rfl, fun hm => ?_, ?_⟩
  · obtain ⟨ev, hout, -⟩ := memberReact_lost (l := s.lock.state) (round := none) (first := false) hm hq hl
    rw [settleReports_member, settleReports_walk, hout]
    exact ⟨rfl, rfl, rfl, rfl⟩
  · have hpacer : pacerEvents r s.lock false = r.pacer.toList := by
      unfold pacerEvents; cases r.pacer <;> rfl
    have hqueue := settle_queue false s r
    rw [settle_false] at hqueue
    have hevents : settleEvents false s r =
        r.pacer.toList ++ (memberReact s.member s.lock.state r none false).event.toList := by
      show pacerEvents r s.lock (memberReact s.member s.lock.state r none false).excludedNow ++ _ = _
      rw [hnot, hpacer]; rfl
    rw [hqueue, hevents, List.map_append]
    congr 2
    unfold lockLostEntries
    by_cases hm : s.member.state = .joining ∨ s.member.state = .joined
    · obtain ⟨ev, hout, hev⟩ := memberReact_lost (l := s.lock.state) (round := none) (first := false) hm hq hl
      rw [if_pos hm, hout, hev rfl]; rfl
    · rw [if_neg hm, memberReact_lost_outside hm hq he]; rfl

/-- A passed window with nothing to report. -/
theorem passWindow_quiet {s : State} (h : WindowOpen s) {l : Lock} (hl : windowLock s = ⟨l, Reports.nothing⟩) :
    QuietFrame s (passWindow s) ∧ (passWindow s).draws = s.draws ∧ (passWindow s).timer.round = s.timer.round ∧
    (passWindow s).timer.settled = true ∧ (passWindow s).timer.latched = s.timer.latched ∧ (passWindow s).lock = l := by
  refine ⟨⟨passWindow_frame s, ?_⟩, ?_⟩ <;> rw [passWindow_of_open ((windowOpen_iff s).2 h), hl, settleReports_quiet]
  · exact ⟨rfl, rfl, rfl, rfl, rfl⟩
  · refine ⟨rfl, rfl, rfl, rfl, ?_⟩
    show (windowLock s).lock = l
    rw [hl]

theorem markOnLine_of_sent {s : State} {f : MarkFrame} {cut : Bool} (h : MarkSent s f cut) : markOnLine s = some (f, cut) := by
  unfold markOnLine; rw [h.2.2]

/-- The readback of the own mark by its outcome. -/
theorem readMark_of_sent {s : State} {f : MarkFrame} {cut : Bool} (h : MarkSent s f cut) {bytes : List Byte} {out : LockOut}
    (hl : readbackLock s f cut bytes = out) :
    readMark bytes s = settleReports (markRead s out.lock) out.reports := by
  rw [readMark_of_mark (markOnLine_of_sent h), hl]

theorem readbackLock_bad {s : State} {f : MarkFrame} {cut : Bool} {bytes : List Byte} (h : ReadsBadly (markBytes f) bytes cut) :
    readbackLock s f cut bytes =
      lockReadback s.loader.settings.station (Config.freeClaimDetail s.draws) false s.lock := by
  rw [readbackLock, readbackSucceeds_bad h]

/-- A readback with nothing to report takes the mark off the line and leaves the lock unit's result. -/
theorem readMark_quiet {s : State} {f : MarkFrame} {cut : Bool} (h : MarkSent s f cut) {bytes : List Byte} {l : Lock}
    (hl : readbackLock s f cut bytes = ⟨l, Reports.nothing⟩) :
    QuietFrame s (readMark bytes s) ∧ (readMark bytes s).timer = s.timer ∧ (readMark bytes s).link.line = none ∧
    (readMark bytes s).link.latched = s.link.latched ∧ (readMark bytes s).lock = l := by
  refine ⟨⟨readMark_frame bytes s, ?_⟩, ?_⟩ <;> rw [readMark_of_sent h hl, settleReports_quiet]
  · exact ⟨rfl, rfl, rfl, rfl, rfl⟩
  · exact ⟨rfl, rfl, rfl, rfl⟩

/-! ### The obligations -/

/-- Settles O38: missed marks count, and the sixteenth leads to SEARCH from LOCKED, at a pacer and from ACQUIRE. -/
theorem missedMarksCountAndReturn : Obligations.MissedMarksCountAndReturn := by
  unfold Obligations.MissedMarksCountAndReturn
  refine ⟨fun s h => ⟨fun hwhy => ?counts, fun hm hs hx => ?full⟩, fun s h hs hm => ?coasts,
    fun bytes f cut s h hb hm => ?readback, fun s h hs hx hm => ?returns⟩
  case counts =>
    have hbelow : s.lock.missed < 16 := by
      rcases hwhy with hm | ⟨hm, -, -⟩ <;> omega
    obtain ⟨hready, hopen, hs | ⟨hs, hp⟩⟩ := id h
    · have hwhy' : satInc s.lock.missed Config.missedLimit ≠ Config.missedLimit ∨
          decide (s.member.state = .excluded) = true := by
        rcases hwhy with hm | ⟨-, -, hx⟩
        · rw [satInc_missed hbelow]; exact .inl (show s.lock.missed + 1 ≠ 16 by omega)
        · exact .inr (decide_eq_true hx)
      have hl := lockWindow_acquire_counts (n := s.loader.settings.station) hs hwhy'
      rw [satInc_missed hbelow] at hl
      rw [if_pos hs]
      exact ⟨passWindow s, rfl, passWindow_quiet h hl⟩
    · have hm : s.lock.missed < 15 := by
        rcases hwhy with hm | ⟨-, ha, -⟩
        · exact hm
        · exact absurd (ha.symm.trans hs) (by decide)
      rw [if_neg (by rw [hs]; decide)]
      exact ⟨passWindow s, rfl, passWindow_quiet h (lockWindow_locked_counts hs hm)⟩
  case full =>
    have hl := lockWindow_acquire_counts (n := s.loader.settings.station) hs (.inr (decide_eq_true hx))
    have hcount : satInc s.lock.missed Config.missedLimit = s.lock.missed := by rw [hm]; rfl
    rw [hcount] at hl
    obtain ⟨hframe, -, -, -, -, hlock⟩ := passWindow_quiet h hl
    exact ⟨passWindow s, rfl, hframe, hlock⟩
  case coasts =>
    have hl : windowLock s = _ := lockWindow_coasts hs hm
    have ht := passWindow_of_open ((windowOpen_iff s).2 h)
    obtain ⟨hlock, hchannels, hislanded, hqueue⟩ := settleReports_lost (s := windowed s) (r := (windowLock s).reports)
      (lockWindow_quiet _ _ _) (by rw [hl]) (by rw [hl]; rfl)
    have hsearch : (windowed s).lock = enterSearch s.loader.settings.station s.lock := by
      show (windowLock s).lock = _
      rw [hl]
    have hcame : (decide (s.lock.state = .locked) && decide ((passWindow s).lock.state = .search)) = true := by
      rw [ht, hlock, hsearch, decide_eq_true hs]; rfl
    refine ⟨passWindow s, congrArg Host.Outcome.next (if_pos hcame), passWindow_frame s, ?_⟩
    rw [ht]
    refine ⟨hchannels, rfl, hlock.trans hsearch, rfl, hislanded, ?_⟩
    rw [hqueue, hl, hsearch]; rfl
  case readback =>
    obtain ⟨hs, hp, hline⟩ := id h
    obtain ⟨l', ev, hl, hev⟩ := lockReadback_coasts (n := s.loader.settings.station) (Config.freeClaimDetail s.draws) hp hm
    have ht := readMark_of_sent h ((readbackLock_bad hb).trans hl)
    obtain ⟨hlock, hchannels, hislanded, hqueue⟩ := settleReports_lost
      (s := markRead s (enterSearch s.loader.settings.station l'))
      (r := { Reports.nothing with lost := true, pacer := some ev }) ⟨rfl, rfl⟩ rfl rfl
    have hcame : (decide (s.lock.state = .locked) && decide ((readMark bytes s).lock.state = .search)) = true := by
      rw [ht, hlock, decide_eq_true hs]; rfl
    refine ⟨readMark bytes s, congrArg Host.Outcome.next (if_pos hcame), readMark_frame bytes s, ?_⟩
    rw [ht, hlock]
    exact ⟨hchannels, rfl, rfl, rfl, rfl, rfl, rfl, rfl, rfl, rfl, hislanded, ev, hev, hqueue⟩
  case returns =>
    have hl : windowLock s = ⟨enterSearch s.loader.settings.station s.lock, Reports.nothing⟩ := by
      rw [windowLock, decide_eq_false hx]; exact lockWindow_returns hs hm
    obtain ⟨hframe, -, hround, -, -, hlock⟩ := passWindow_quiet h hl
    have hcame : (decide (s.lock.state = .acquire) && decide ((passWindow s).lock.state = .search)) = true := by
      rw [hlock, decide_eq_true hs]; rfl
    exact ⟨passWindow s, congrArg Host.Outcome.next (if_pos hcame), hframe, hround, hlock⟩

/-- Settles O39: a good readback, a failed one, and the second failed one. -/
theorem ownMarkReadback : Obligations.OwnMarkReadback := by
  unfold Obligations.OwnMarkReadback
  refine ⟨fun f s h => ?good, fun bytes f cut s h hb hm hc => ?fails, fun bytes f cut s h hb hm hc => ?claim⟩
  case good =>
    obtain ⟨-, hp, -⟩ := id h
    have hl : readbackLock s f false (markBytes f) = ⟨{ s.lock with claimFails := 0, missed := 0 }, Reports.nothing⟩ := by
      rw [readbackLock, readbackSucceeds_mark]; exact lockReadback_good _ hp
    exact ⟨readMark (markBytes f) s, rfl, readMark_quiet h hl⟩
  case fails =>
    obtain ⟨-, hp, -⟩ := id h
    obtain ⟨hframe, htimer, hline, -, hlock⟩ := readMark_quiet h ((readbackLock_bad hb).trans (lockReadback_fails _ hp hm hc))
    exact ⟨readMark bytes s, rfl, hframe, htimer, hline, hlock⟩
  case claim =>
    obtain ⟨-, hp, -⟩ := id h
    have hcame : claimFailsNow bytes s = true := by
      unfold claimFailsNow
      rw [markOnLine_of_sent h]
      show (!readbackSucceeds (markBytes f) bytes cut && s.lock.pacer && decide (Config.claimLimit ≤ s.lock.claimFails + 1)) = true
      rw [readbackSucceeds_bad hb, hp, hc]; rfl
    have ht := readMark_of_sent h ((readbackLock_bad hb).trans (lockReadback_claim_fails _ hp hm hc))
    refine ⟨readMark bytes s, congrArg Host.Outcome.next (if_pos hcame), readMark_frame bytes s, ?_⟩
    rw [ht]
    have hidle : ∀ (b : State) (r : Reports), Quiet r → r.entered = false → r.lost = false →
        memberReact b.member b.lock.state r none false = .keep b.member :=
      fun b r hq he hl => memberReact_idle hq he hl
    unfold settleReports
    rw [hidle _ _ ⟨rfl, rfl⟩ rfl rfl]
    exact ⟨rfl, rfl, rfl, rfl, rfl, rfl, rfl, rfl⟩

end Sys2Proof.Machine
end

section
/-! PROOFS. Round starts: the own rollover, the pacer role, grants and caution, the second omission, dwell, rejoin and join (R2, R11, R17,
R48 to R53, R58 to R63, R112). -/

namespace Sys2Proof.Machine

/-! ### What a round start does, whatever its cause -/

/-- The state that a round start settles: the timer, the lock unit and the line aside it is the state before. -/
structure StartsFrom (s b : State) : Prop where
  loader : b.loader = s.loader
  tick : b.tick = s.tick
  heard : b.heard = s.heard
  walk : b.walk = s.walk
  member : b.member = s.member
  channels : b.channels = s.channels
  capture : b.capture = s.capture

theorem startsFrom_turned (s : State) : StartsFrom s (turned s) := ⟨rfl, rfl, rfl, rfl, rfl, rfl, rfl⟩

theorem startsFrom_rephased (s : State) (f : MarkFrame) (arr : Arrival) (l : Lock) : StartsFrom s (rephased s f arr l) :=
  ⟨rfl, rfl, rfl, rfl, rfl, rfl, rfl⟩

/-- What the lock unit reports with a round start: no conflict, and from LOCKED a mismatch with a loss of lock alone. -/
structure StartReports (s : State) (r : Reports) : Prop where
  conflict : r.conflict = false
  mismatch : r.mismatch.isSome = true → s.lock.state = .locked → r.lost = true
  lost : r.lost = true → s.lock.state = .locked

theorem acquireMark_not_lost (l : Lock) (place : MarkPlace) (mayLock : Bool) (mismatch : Option Byte) :
    (acquireMark l place mayLock mismatch).reports.lost = false := by
  by_cases hin : place = .outside
  · rw [hin]; rfl
  · rw [acquireMark_inside hin]; split <;> rfl

/-- A mark in LOCKED: a pacer yields or ignores it, a follower loses lock or follows it (R14, R20, R21). -/
theorem judged_locked {s : State} {f : MarkFrame} {arr : Arrival} (hs : s.lock.state = .locked) : judged s f arr =
    if s.lock.pacer = true then
      if f.station.toNat < s.loader.settings.station then
        .followed ⟨beginAcquire s.lock, { Reports.nothing with
          lost := true, mismatch := markMismatch s.loader.digest (decide (s.member.state = .excluded)) f,
          pacer := some (.pacerYielded f.station) }⟩ true
      else .ignored
    else if (!decide (s.member.state = .excluded) && decide (f.digest ≠ s.loader.digest)) = true ∨
        placeOf s arr = .outside then
      .followed ⟨beginAcquire s.lock, { Reports.nothing with
        lost := true, mismatch := markMismatch s.loader.digest (decide (s.member.state = .excluded)) f }⟩ true
    else .followed ⟨{ s.lock with missed := 0 }, Reports.nothing⟩ (startsRound (placeOf s arr)) := by
  split
  · next hp =>
    split
    · next hn => exact lockMark_yields hs hp hn
    · next hn => exact lockMark_ignores hs hp (Nat.le_of_not_lt hn)
  · next hp =>
    have hp : s.lock.pacer = false := by simpa using hp
    split
    · next hd => exact lockMark_loses hs hp hd
    · next hd =>
      obtain ⟨hd, hin⟩ := not_or.1 hd
      refine lockMark_follows hs hp ?_ hin
      by_cases hdigest : f.digest = s.loader.digest
      · exact .inl hdigest
      · exact .inr (by simpa [hdigest] using hd)

theorem startReports_mark {s : State} {f : MarkFrame} {arr : Arrival} {out : LockOut} {starts : Bool}
    (hj : judged s f arr = .followed out starts) : StartReports s out.reports := by
  cases hs : s.lock.state with
  | search =>
    cases (lockMark_search hs).symm.trans hj
    exact ⟨rfl, fun _ h => absurd (hs.symm.trans h) (by decide), nofun⟩
  | acquire =>
    cases (lockMark_acquire hs).symm.trans hj
    refine ⟨(acquireMark_always _ _).2.2.2, fun _ h => absurd (hs.symm.trans h) (by decide), fun h => ?_⟩
    rw [acquireMark_not_lost] at h; cases h
  | locked =>
    have hfollowed := (judged_locked hs).symm.trans hj
    split at hfollowed
    · split at hfollowed
      · cases hfollowed; exact ⟨rfl, fun _ _ => rfl, fun _ => hs⟩
      · cases hfollowed
    · split at hfollowed
      · cases hfollowed; exact ⟨rfl, fun _ _ => rfl, fun _ => hs⟩
      · injection hfollowed with ho
        rw [← ho]; exact ⟨rfl, nofun, nofun⟩

theorem startReports_rollover (s : State) : StartReports s (rolloverLock s).reports := by
  obtain ⟨hm, hc⟩ := lockRollover_quiet s.loader.settings.station s.heard.map s.lock
  refine ⟨hc, fun h => absurd h (by rw [hm]; decide), fun h => ?_⟩
  unfold rolloverLock lockRollover at h; dsimp only at h
  split at h
  · split at h <;> cases h
  · cases h
  · split at h <;> cases h

/-- The own rollover settles the turned state; after it the mark is sent. -/
theorem rollover_settled {s : State} (h : Ready s) :
    rollover s = (settleRound (turned s) (rolloverLock s).reports).setLink (rollover s).link := by
  rw [rollover_of_ready h]
  unfold sendMark; split <;> rfl

/-- A round start settles a state that stands as before, by reports of a round start; the line aside nothing else happens. -/
theorem roundBy_starts {cause : RoundCause} {s : State} (h : TakesRoundStart cause s) :
    ∃ b r, StartsFrom s b ∧ StartReports s r ∧ roundBy cause s = (settleRound b r).setLink (roundBy cause s).link ∧
      ((∀ f arr, cause = .mark f arr → f.digest = s.loader.digest) → r.mismatch = none) := by
  obtain ⟨hr, hcause⟩ := h
  cases cause with
  | rollover =>
    refine ⟨_, _, startsFrom_turned s, startReports_rollover s, ?_,
      fun _ => (lockRollover_quiet s.loader.settings.station s.heard.map s.lock).1⟩
    exact rollover_settled hr
  | mark f arr =>
    obtain ⟨out, hj⟩ := hcause
    have hj : judged s f arr = .followed out true := hj
    refine ⟨_, _, startsFrom_rephased s f arr (markLock true out.lock), startReports_mark hj, ?_, fun hd => ?_⟩
    · show receiveMark f arr s = (settleRound _ _).setLink (receiveMark f arr s).link
      rw [receiveMark_settled hr hj]; rfl
    · have hd : f.digest = s.loader.digest := hd f arr rfl
      cases hs : s.lock.state with
      | search => cases (judged_search hs (.inl hd)).symm.trans hj; rfl
      | acquire =>
        have hj' := (judged_acquire hs (.inl hd)).symm.trans hj
        injection hj' with ho
        rw [← ho]; exact (acquireMark_quiet _ _ _).1
      | locked =>
        have hfollowed := (judged_locked hs).symm.trans hj
        rw [markMismatch_valid (.inl hd)] at hfollowed
        split at hfollowed
        · split at hfollowed <;> cases hfollowed; rfl
        · split at hfollowed
          · cases hfollowed; rfl
          · injection hfollowed with ho
            rw [← ho]; rfl

/-! ### Membership at a round start -/

section react
variable {m : Membership} {l : LockState} {r : Reports} {round : Option Bool} {first : Bool}

theorem memberInDivision_islandedNow (hm : m.state = .joining ∨ m.state = .joined) :
    (memberInDivision m l r round first).islandedNow = true ↔ (memberInDivision m l r round first).member.state = .islanded := by
  have hne : m.state ≠ .islanded := by rcases hm with hm | hm <;> rw [hm] <;> decide
  have hkeep : ∀ m' : Membership, m'.state = m.state →
      ((MemberOut.keep m').islandedNow = true ↔ (MemberOut.keep m').member.state = .islanded) :=
    fun m' h => ⟨nofun, fun hx => absurd (h.symm.trans hx) hne⟩
  unfold memberInDivision
  split
  · split <;> exact ⟨fun _ => rfl, fun _ => rfl⟩
  · split
    · exact ⟨fun _ => rfl, fun _ => rfl⟩
    · split
      · exact hkeep m rfl
      · split
        · exact ⟨nofun, nofun⟩
        · exact hkeep _ rfl

/-- A station islands in an event exactly when it was in the division and is ISLANDED after it (R62). -/
theorem memberReact_islandedNow : (memberReact m l r round first).islandedNow = true ↔
    (m.state = .joining ∨ m.state = .joined) ∧ (memberReact m l r round first).member.state = .islanded := by
  by_cases hm : m.state = .joining ∨ m.state = .joined
  · obtain ⟨hx, -⟩ | ⟨-, -, ev, hout⟩ | - := memberReact_cases (m := m) (l := l) (r := r) (round := round) (first := first)
    · rcases hm with hm | hm <;> rw [hm] at hx <;> cases hx
    · rw [hout]; exact ⟨nofun, fun h => by cases h.2⟩
    · by_cases hq : Quiet r
      · rw [memberReact_inDivision hm hq.1 hq.2]
        exact (memberInDivision_islandedNow hm).trans ⟨fun h => ⟨hm, h⟩, fun h => h.2⟩
      · have hne : m.state ≠ .excluded := by rcases hm with hm | hm <;> rw [hm] <;> decide
        have hout : ∃ ev, memberReact m l r round first = enterExcluded m ev := by
          cases hr : r.mismatch with
          | some n => exact ⟨_, memberReact_mismatch hne hr⟩
          | none =>
            cases hc : r.conflict
            · exact absurd ⟨hr, hc⟩ hq
            · exact ⟨_, memberReact_conflict hne hr hc⟩
        obtain ⟨ev, hout⟩ := hout
        rw [hout]; exact ⟨nofun, fun h => by cases h.2⟩
  · refine ⟨fun h => ?_, fun h => absurd h.1 hm⟩
    have hkeeps : (memberReact m l r round first).islandedNow = false := by
      unfold memberReact
      split
      · rfl
      · split
        · rfl
        · split
          · rfl
          · split <;> rfl
      · split
        · rfl
        · split
          · rfl
          · unfold memberIslanded; split
            · rfl
            · dsimp only; split <;> rfl
      · next hs => exact absurd (.inl hs) hm
      · next hs => exact absurd (.inr hs) hm
    rw [hkeeps] at h; cases h

/-- A station is excluded in an event exactly when it was not and is EXCLUDED after it, by a mismatch or a conflict (R65). -/
theorem memberReact_excludedNow : ((memberReact m l r round first).excludedNow = true ↔
      m.state ≠ .excluded ∧ (memberReact m l r round first).member.state = .excluded) ∧
    ((memberReact m l r round first).excludedNow = true → r.mismatch.isSome = true ∨ r.conflict = true) := by
  obtain ⟨hm, hout⟩ | ⟨hm, hr, ev, hout⟩ | hout := memberReact_cases (m := m) (l := l) (r := r) (round := round) (first := first)
  · rw [hout]; exact ⟨⟨nofun, fun h => absurd hm h.1⟩, nofun⟩
  · rw [hout]; exact ⟨⟨fun _ => ⟨hm, rfl⟩, fun _ => rfl⟩, fun _ => hr⟩
  · rw [hout.notNow]; exact ⟨⟨nofun, fun h => absurd h.2 hout.state⟩, nofun⟩

end react

theorem clipGrant_eq (f : Nat) (g : Int) : clipGrant f g = clipped f g := by
  unfold clipGrant clipped; split
  · omega
  · split <;> omega

/-! ### Caution at a round start (R53) -/

theorem cautionReport_off {w : WalkUnit} {d : Bool} (h : w.caution = false) : cautionReport w d = (w, []) := by
  unfold cautionReport; rw [if_neg (by rw [h]; decide)]

theorem cautionReport_disagreement {w : WalkUnit} (h : w.caution = true) :
    cautionReport w true = ({ w with cautionRounds := satInc w.cautionRounds Config.max16, clean := 0 }, []) := by
  unfold cautionReport; rw [if_pos h]; rfl

theorem cautionReport_clean {w : WalkUnit} (h : w.caution = true) (hc : w.clean = 0) :
    cautionReport w false = ({ w with cautionRounds := satInc w.cautionRounds Config.max16, clean := 1 }, []) := by
  unfold cautionReport; rw [if_pos h, hc]; rfl

/-- The second clean round start clears caution with its entry. -/
theorem cautionReport_clears {w : WalkUnit} (h : w.caution = true) (hc : 1 ≤ w.clean) :
    cautionReport w false = ({ w with cautionRounds := satInc w.cautionRounds Config.max16, clean := 0, caution := false },
      [.cautionOff (satInc w.cautionRounds Config.max16)]) := by
  have hlimit : Config.cleanLimit ≤ w.clean + 1 := show 2 ≤ w.clean + 1 by omega
  unfold cautionReport; rw [if_pos h]; dsimp only
  rw [if_neg (by decide), if_pos hlimit]

/-- Caution reports change the caution flag, its counts and nothing else of the walk unit. -/
theorem cautionReport_pending (w : WalkUnit) (d : Bool) :
    (cautionReport w d).1.pendingHall = w.pendingHall ∧ (cautionReport w d).1.pendingLocal = w.pendingLocal := by
  unfold cautionReport
  split
  · dsimp only
    split
    · exact ⟨rfl, rfl⟩
    · split <;> exact ⟨rfl, rfl⟩
  · exact ⟨rfl, rfl⟩

/-- The grants taken where none are forced to zero. -/
theorem grantsTaken_results {f : Nat} {w : WalkUnit} {m : MemberState} :
    (w.pendingLocal = none → ∀ z, grantsTaken f w m z = Quad.same 0) ∧
    (m = .joined → w.pendingHall = none → ∀ z, grantsTaken f w m z = Quad.same 0) ∧
    (∀ h, m = .joined → w.pendingLocal ≠ none → w.pendingHall = some h →
      grantsTaken f w m false = if w.caution = true then h.map (clipGrant f) else h) ∧
    (∀ loc, m ≠ .joined → w.pendingLocal = some loc → grantsTaken f w m false = loc) := by
  unfold grantsTaken
  refine ⟨fun hl z => ?_, fun hm hh z => ?_, fun h hm hl hh => ?_, fun loc hm hl => ?_⟩
  · cases z
    · rw [hl]; rfl
    · rfl
  · cases z
    · rw [hm, hh]; cases w.pendingLocal <;> rfl
    · rfl
  · cases hl' : w.pendingLocal with
    | none => exact absurd hl' hl
    | some loc => rw [hm, hh]; rfl
  · rw [hl, if_neg (by decide)]; dsimp only; rw [if_neg hm]

/-- A station queue that holds at most one entry takes every entry of a round start. -/
theorem startsFrom_entry {s b t : State} {r : Reports} {ev : StationEvent} (hb : StartsFrom s b)
    (ht : t = (settleRound b r).setLink t.link) (hev : ev ∈ settleEvents true b r)
    (hlen : s.capture.station.entries.length ≤ 1) :
    .station s.tick ev t.timer.round ∈ t.capture.station.entries := by
  have hin := settle_entry hev (show b.capture.station.entries.length ≤ 1 by rw [hb.capture]; exact hlen)
  rw [hb.tick] at hin
  rw [ht]
  rw [show ((settleRound b r).setLink t.link).timer.round = b.timer.round from settleRound_roundNumber b r]
  exact hin

theorem roundBy_frame (cause : RoundCause) (s : State) : LinkFrame s (roundBy cause s) := by
  cases cause with
  | rollover => exact rollover_frame s
  | mark f arr => exact receiveMark_frame f arr s

theorem exec_roundEvent (cause : RoundCause) (s : State) : exec (roundEvent cause) s = .next (roundBy cause s) := by
  cases cause <;> rfl

/-- Settles O27: which result a round start puts into effect, and how caution counts and clears. -/
theorem grantsAndCautionAtRoundStart : Obligations.GrantsAndCautionAtRoundStart := by
  unfold Obligations.GrantsAndCautionAtRoundStart
  refine ⟨fun cause s h => ?_, fun cause s h hon hclean hd => ?_⟩
  all_goals
    have hframe := roundBy_frame cause s
    obtain ⟨b, r, hb, hr, ht, -⟩ := roundBy_starts h
    have hwalk : (roundBy cause s).walk = takeResult s.loader.settings.floor (cautionReport s.walk s.heard.disagreement).1
        (roundBy cause s).member.state (zeroesGrants r
          (memberReact s.member b.lock.state r (some s.heard.omission) (Config.freeIslandOmitted b.draws))) := by
      rw [ht]
      show (settleRound b r).walk = takeResult _ _ (settleRound b r).member.state _
      rw [settleRound_walk, settleRound_member, hb.loader, hb.walk, hb.heard, hb.member]
  · refine ⟨roundBy cause s, exec_roundEvent cause s, hframe, ?_⟩
    have hmember : (roundBy cause s).member =
        (memberReact s.member b.lock.state r (some s.heard.omission) (Config.freeIslandOmitted b.draws)).member := by
      rw [ht]
      show (settleRound b r).member = _
      rw [settleRound_member, hb.heard, hb.member]
    generalize ho : memberReact s.member b.lock.state r (some s.heard.omission) (Config.freeIslandOmitted b.draws) = o
      at hwalk hmember
    obtain ⟨hxiff, hxwhy⟩ := memberReact_excludedNow (m := s.member) (l := b.lock.state) (r := r)
      (round := some s.heard.omission) (first := Config.freeIslandOmitted b.draws)
    have hislands := memberReact_islandedNow (m := s.member) (l := b.lock.state) (r := r)
      (round := some s.heard.omission) (first := Config.freeIslandOmitted b.draws)
    rw [ho, ← hmember] at hxiff hislands
    rw [ho] at hxwhy
    have hlost : o.excludedNow = true → s.lock.state = .locked → r.lost = true := fun hx hl => by
      rcases hxwhy hx with hmis | hc
      · exact hr.mismatch hmis hl
      · rw [hr.conflict] at hc; cases hc
    have hzero : zeroesGrants r o = true ↔ IslandsNow s (roundBy cause s) ∨ ExcludedFromLock s (roundBy cause s) := by
      unfold zeroesGrants
      rw [Bool.or_eq_true, Bool.and_eq_true, hislands, hxiff]
      refine or_congr_right ⟨fun ⟨⟨hne, hx⟩, hl⟩ => ⟨hr.lost hl, hne, hx⟩, fun ⟨hl, hne, hx⟩ => ⟨⟨hne, hx⟩, ?_⟩⟩
      exact hlost (hxiff.2 ⟨hne, hx⟩) hl
    obtain ⟨hhall, hlocal⟩ := cautionReport_pending s.walk s.heard.disagreement
    obtain ⟨hnolocal, hnohall, hjoined, hother⟩ := grantsTaken_results (f := s.loader.settings.floor)
      (w := (cautionReport s.walk s.heard.disagreement).1) (m := (roundBy cause s).member.state)
    rw [hlocal] at hnolocal hjoined hother
    rw [hhall] at hnohall hjoined
    rw [hwalk]
    refine ⟨rfl, rfl, rfl, fun hoff => ?_, fun hon => ⟨?_, fun hd => ?_, fun hd hc => ?_, fun hd hc => ?_⟩,
      fun hi => ?_, fun hx => ?_, fun hl => hnolocal hl _, fun hm hh => hnohall hm hh _,
      fun hg hm hl hh k => ?_, fun loc hm hi hx hl => ?_⟩
    · rw [cautionReport_off hoff]; exact ⟨hoff, rfl, rfl⟩
    · cases hd : s.heard.disagreement
      · by_cases hc : 1 ≤ s.walk.clean
        · rw [cautionReport_clears hon hc]; rfl
        · rw [cautionReport_clean hon (by omega)]; rfl
      · rw [cautionReport_disagreement hon]; rfl
    · rw [hd, cautionReport_disagreement hon]; exact ⟨hon, rfl⟩
    · rw [hd, cautionReport_clean hon hc]; exact ⟨hon, rfl⟩
    · rw [hd, cautionReport_clears hon hc]; exact ⟨rfl, rfl⟩
    · rw [hzero.2 (.inl hi)]; rfl
    · rw [hzero.2 (.inr hx)]; rfl
    · have hz : zeroesGrants r o = false := by
        rw [Bool.eq_false_iff]
        intro hz
        rcases hzero.1 hz with hi | hx
        · rw [hi.2] at hm; cases hm
        · rw [hx.2.2] at hm; cases hm
      show (grantsTaken _ _ _ _).get k = if (cautionReport s.walk s.heard.disagreement).1.caution = true then _ else _
      rw [hz, hjoined hg hm hl hh]
      split
      · rw [Quad.get_map, clipGrant_eq]
      · rfl
    · have hz : zeroesGrants r o = false := by
        rw [Bool.eq_false_iff]
        exact fun hz => (hzero.1 hz).elim hi hx
      show grantsTaken _ _ _ _ = loc
      rw [hz]; exact hother loc hm hl
  · have hcaution := cautionReport_clears hon (Nat.le_of_eq hclean.symm)
    rw [hd, hcaution] at hwalk
    have hcame : (s.walk.caution && !(roundBy cause s).walk.caution) = true := by rw [hwalk, hon]; rfl
    refine ⟨roundBy cause s, congrArg Host.Outcome.next (if_pos hcame), hframe, ?_⟩
    refine ⟨by rw [hwalk]; rfl, by rw [hwalk]; rfl, by rw [hwalk]; rfl, fun hlen => ?_⟩
    have hev : StationEvent.cautionOff (satInc s.walk.cautionRounds 65535) ∈ settleEvents true b r := by
      refine (mem_eitherOrder _ _ _ _).2 (.inl ?_)
      rw [hb.walk, hb.heard, hd, hcaution]
      exact List.mem_singleton_self _
    exact startsFrom_entry hb ht hev hlen

end Sys2Proof.Machine
end

section
/-! PROOFS. Round starts that keep lock: the second omission, the dwell, rejoin and join; the own rollover in every block and the pacer
role (R2, R11, R17, R58 to R63). -/

namespace Sys2Proof.Machine

theorem satInc_top {n top : Nat} (h : top ≤ n) : satInc n top = top := if_neg (Nat.not_lt.2 h)

/-- A round start with neither a mismatch nor a conflict leaves the lock unit's own result and membership control's. -/
theorem startsFrom_quiet {s b t : State} {r : Reports} (hb : StartsFrom s b) (ht : t = (settleRound b r).setLink t.link)
    (hq : Quiet r) : t.lock = b.lock ∧ OnlyStarved s t ∧ t.member =
      (memberReact s.member b.lock.state r (some s.heard.omission) (Config.freeIslandOmitted b.draws)).member := by
  refine ⟨?_, fun k => ?_, ?_⟩
  · rw [ht]; exact settle_lock_quiet (starts := true) hq
  · have hchannel := settle_onlyStarved (starts := true) (s := b) hq k
    rw [hb.channels] at hchannel
    rw [ht]; exact hchannel
  · rw [ht]
    show (settleRound b r).member = _
    rw [settleRound_member, hb.member, hb.heard]

/-- The entry of membership control at a round start. -/
theorem startsFrom_member_entry {s b t : State} {r : Reports} {ev : StationEvent} (hb : StartsFrom s b)
    (ht : t = (settleRound b r).setLink t.link)
    (hev : (memberReact s.member b.lock.state r (some s.heard.omission) (Config.freeIslandOmitted b.draws)).event = some ev)
    (hlen : s.capture.station.entries.length ≤ 1) :
    .station s.tick ev t.timer.round ∈ t.capture.station.entries := by
  refine startsFrom_entry hb ht (mem_settleEvents_of_member ?_) hlen
  show (memberReact b.member _ _ (some b.heard.omission) _).event = _
  rw [hb.member, hb.heard]; exact hev

/-- The own rollover in LOCKED keeps lock; the takeover of the pacer role is all it can report (R17). -/
theorem lockRollover_locked {n : Nat} {map : BitVec 48} {l : Lock} (h : l.state = .locked) :
    lockRollover n map l =
      if l.pacer = false ∧ 2 ≤ l.missed ∧ l.backoff - 1 = 0 ∧ lowestPresent n map = true then
        ⟨{ backoffDown l with pacer := true, claimFails := 0 },
          { Reports.nothing with pacer := some (.pacerTakeover l.missed) }⟩
      else ⟨backoffDown l, Reports.nothing⟩ := by
  have hs : (backoffDown l).state = .locked := h
  unfold lockRollover; dsimp only
  rw [hs]; rfl

/-- A round start that keeps lock reports neither a loss nor an entry of lock, nor a mismatch. -/
theorem roundBy_keeps {cause : RoundCause} {s : State} (h : KeepsLock cause s) :
    ∃ b r, StartsFrom s b ∧ Quiet r ∧ r.lost = false ∧ r.entered = false ∧ b.lock.state = .locked ∧
      roundBy cause s = (settleRound b r).setLink (roundBy cause s).link := by
  obtain ⟨hr, hs, hcause⟩ := h
  cases cause with
  | rollover =>
    have hlock : rolloverLock s = _ := lockRollover_locked hs
    have hreports : (rolloverLock s).reports.lost = false ∧ (rolloverLock s).reports.entered = false ∧
        (rolloverLock s).lock.state = .locked := by
      rw [hlock]
      split
      · exact ⟨rfl, rfl, hs⟩
      · exact ⟨rfl, rfl, hs⟩
    obtain ⟨hlost, hentered, hlocked⟩ := hreports
    refine ⟨_, _, startsFrom_turned s, lockRollover_quiet _ _ _, hlost, hentered, hlocked,
      rollover_settled hr⟩
  | mark f arr =>
    obtain ⟨hp, hd, hplace⟩ := hcause
    have hplace : placeOf s arr = .beforeRollover := hplace
    have hj := judged_follows (arr := arr) hs hp (.inl hd) (by rw [hplace]; decide)
    rw [hplace] at hj
    refine ⟨_, _, startsFrom_rephased s f arr (markLock true { s.lock with missed := 0 }), quiet_nothing, rfl, rfl,
      hs, ?_⟩
    show receiveMark f arr s = (settleRound _ _).setLink (receiveMark f arr s).link
    rw [receiveMark_settled hr hj]; rfl

/-! ### Membership where lock is kept -/

section react
variable {m : Membership} {l : LockState} {r : Reports} {om first : Bool}

/-- The second omission round islands (R60). -/
theorem memberReact_omitted (hm : m.state = .joining ∨ m.state = .joined) (hq : Quiet r) (hl : r.lost = false)
    (ho : omitsNow m (some om) = true) :
    memberReact m l r (some om) first = enterIslanded m (.islandedOmitted m.state) := by
  rw [memberReact_inDivision hm hq.1 hq.2]
  unfold memberInDivision
  rw [if_neg (by rw [hl]; decide), if_pos ho]

/-- A round start that does not report the second omission round: a confirmed joining station joins, any other counts omissions
(R59, R60). -/
theorem memberReact_round (hm : m.state = .joining ∨ m.state = .joined) (hq : Quiet r) (hl : r.lost = false)
    (ho : ¬ (om = true ∧ 1 ≤ m.omissions)) :
    memberReact m l r (some om) first =
      if m.state = .joining ∧ m.confirmed = true ∧ l = .locked then
        ⟨{ m with state := .joined, omissions := 0, confirmed := false }, some (.memberJoined m.joinRounds), false, false⟩
      else .keep { m with omissions := if om then m.omissions + 1 else 0, confirmed := false } := by
  rw [memberReact_inDivision hm hq.1 hq.2]
  unfold memberInDivision
  rw [if_neg (by rw [hl]; decide), if_neg (by rw [omitsNow_eq_false ho]; decide)]

/-- The dwell of an ISLANDED station that stays (R63). -/
theorem memberReact_dwells (hm : m.state = .islanded) (hq : Quiet r) (h : ¬ (3 ≤ m.dwell ∧ l = .locked)) :
    memberReact m l r (some om) first = .keep { m with dwell := satInc m.dwell 4 } := by
  rw [memberReact_islanded hm hq.1 hq.2]
  unfold memberIslanded; dsimp only
  refine if_neg fun ⟨hd, hl⟩ => h ⟨?_, hl⟩
  by_contra hlt
  have hbelow : satInc m.dwell 4 = m.dwell + 1 := satInc_below (by omega)
  have hfour : m.dwell + 1 = 4 := hbelow.symm.trans hd
  omega

/-- The fourth dwell round start rejoins where the station is LOCKED (R63). -/
theorem memberReact_rejoins (hm : m.state = .islanded) (hq : Quiet r) (hd : 3 ≤ m.dwell) (hl : l = .locked) :
    memberReact m l r (some om) first = enterJoining { m with dwell := 4 } := by
  have hfour : satInc m.dwell Config.dwellLimit = 4 := by
    rcases Nat.lt_or_ge m.dwell 4 with hlt | hge
    · exact (satInc_below hlt).trans (by omega)
    · exact satInc_top hge
  rw [memberReact_islanded hm hq.1 hq.2]
  unfold memberIslanded; dsimp only
  rw [hfour, if_pos ⟨rfl, hl⟩]

end react

/-- Settles O29: the second omission round at a round start that keeps lock. -/
theorem secondOmissionIslands : Obligations.SecondOmissionIslands := by
  unfold Obligations.SecondOmissionIslands
  intro cause s h hm hcount hom
  obtain ⟨b, r, hb, hq, hl, -, hlocked, ht⟩ := roundBy_keeps h
  obtain ⟨hlock, hstarved, hmember⟩ := startsFrom_quiet hb ht hq
  have homits : omitsNow s.member (some s.heard.omission) = true := by
    unfold omitsNow; rw [hom, hcount]; rfl
  have hreact := memberReact_omitted (l := b.lock.state) (first := Config.freeIslandOmitted b.draws) hm hq hl homits
  rw [hreact] at hmember
  have hcame : islandsByOmission cause s = true := by
    have hdivision : (decide (s.member.state = .joining) || decide (s.member.state = .joined)) = true := by
      simpa using hm
    unfold islandsByOmission
    rw [homits, hdivision, hmember, hlock, hlocked]; rfl
  refine ⟨roundBy cause s, congrArg Host.Outcome.next (if_pos hcame), roundBy_frame cause s, hstarved, fun _ => ?_,
    by rw [hlock, hlocked], fun hlen => startsFrom_member_entry hb ht (by rw [hreact]; rfl) hlen⟩
  have hzero : (settleRound b r).walk.grants = Quad.same 0 := by
    refine settleRound_grants_zero b r ?_
    rw [hb.member, hb.heard, hreact]; rfl
  obtain ⟨-, hhall, hlocal⟩ := settleRound_results b r
  refine ⟨hmember, ?_⟩
  rw [ht]; exact ⟨hzero, hhall, hlocal⟩

/-- Settles O30: rejoin, the dwell with and without lock, and the join. -/
theorem joinDwellAndRejoin : Obligations.JoinDwellAndRejoin := by
  unfold Obligations.JoinDwellAndRejoin
  refine ⟨fun cause s h hm hd => ?rejoin, fun cause s h hdigest hm => ?dwell, fun cause s h => ?join⟩
  case rejoin =>
    obtain ⟨b, r, hb, hq, -, -, hlocked, ht⟩ := roundBy_keeps h
    obtain ⟨hlock, hstarved, hmember⟩ := startsFrom_quiet hb ht hq
    have hreact := memberReact_rejoins (om := s.heard.omission) (first := Config.freeIslandOmitted b.draws) hm hq hd hlocked
    rw [hreact] at hmember
    have hcame : (decide (s.member.state = .islanded) && decide ((roundBy cause s).member.state = .joining)) = true := by
      rw [hmember, decide_eq_true hm]; rfl
    refine ⟨roundBy cause s, congrArg Host.Outcome.next (if_pos hcame), roundBy_frame cause s, hstarved,
      by rw [hlock, hlocked], ?_⟩
    rw [hmember]
    refine ⟨rfl, rfl, rfl, rfl, rfl, fun hlen => startsFrom_member_entry hb ht ?_ hlen⟩
    rw [hreact]
    show some (StationEvent.memberJoining s.member.state) = _
    rw [hm]
  case dwell =>
    obtain ⟨b, r, hb, hr, ht, hmis⟩ := roundBy_starts h
    have hq : Quiet r := ⟨hmis hdigest, hr.conflict⟩
    obtain ⟨hlock, -, hmember⟩ := startsFrom_quiet hb ht hq
    refine ⟨roundBy cause s, exec_roundEvent cause s, fun ⟨hd, hlocked⟩ => ?_, fun hn => ?_⟩
    · rw [hmember, memberReact_rejoins hm hq hd (hlock ▸ hlocked)]; rfl
    · rw [hlock] at hn
      rw [hmember, memberReact_dwells hm hq hn]; rfl
  case join =>
    obtain ⟨b, r, hb, hq, hl, he, hlocked, ht⟩ := roundBy_keeps h
    obtain ⟨-, -, hmember⟩ := startsFrom_quiet hb ht hq
    refine ⟨roundBy cause s, exec_roundEvent cause s, fun hm hd => ?_, fun hm hc ho => ⟨?_, fun hlen => ?_⟩, fun hm hc ho => ?_,
      fun hm ho => ?_, fun hm => ?_⟩
    · rw [hmember, memberReact_dwells hm hq (fun hx => absurd hx.1 (by omega)), satInc_below (by omega)]; rfl
    · rw [hmember, memberReact_round (.inl hm) hq hl ho, if_pos ⟨hm, hc, hlocked⟩]
    · refine startsFrom_member_entry hb ht ?_ hlen
      rw [memberReact_round (.inl hm) hq hl ho, if_pos ⟨hm, hc, hlocked⟩]
    · rw [hmember, memberReact_round (.inl hm) hq hl ho, if_neg (fun hx => by rw [hc] at hx; exact absurd hx.2.1 (by decide))]
      rw [show (false : Bool) = s.member.confirmed from hc.symm]; rfl
    · rw [hmember, memberReact_round (.inr hm) hq hl ho, if_neg (fun hx => by rw [hm] at hx; exact absurd hx.1 (by decide))]
      rfl
    · rw [hmember, memberReact_stays hm hq he]; rfl

/-! ### The own rollover -/

theorem lockRollover_backoff (n : Nat) (map : BitVec 48) (l : Lock) :
    (lockRollover n map l).lock.backoff = l.backoff - 1 := by
  unfold lockRollover; dsimp only
  split
  · split <;> rfl
  · rfl
  · split <;> rfl

/-- In SEARCH the listen count runs down (R10). -/
theorem lockRollover_listens {n : Nat} {map : BitVec 48} {l : Lock} (h : l.state = .search) (hl : l.listen ≠ 1) :
    lockRollover n map l = ⟨{ l with listen := l.listen - 1, backoff := l.backoff - 1 }, Reports.nothing⟩ := by
  have hs : (backoffDown l).state = .search := h
  unfold lockRollover; dsimp only
  have hlisten : (backoffDown l).listen ≠ 1 := hl
  rw [hs]; dsimp only
  rw [if_neg hlisten, ← h]; rfl

/-- The last listened round starts the station by itself (R11). -/
theorem lockRollover_starts {n : Nat} {map : BitVec 48} {l : Lock} (h : l.state = .search) (hl : l.listen = 1) :
    lockRollover n map l = ⟨⟨.locked, 0, l.lockCount, 0, true, 0, l.backoff - 1⟩,
      { Reports.nothing with entered := true, pacer := some .pacerSelfStart }⟩ := by
  have hs : (backoffDown l).state = .search := h
  unfold lockRollover; dsimp only
  rw [hs]; exact if_pos hl

theorem starved_iff (d g : Int) : starved d g = true ↔ StarvedBy d g := by
  unfold starved signOf
  rw [Bool.and_eq_true, decide_eq_true_iff, decide_eq_true_iff]
  refine and_congr_right fun hd => ?_
  split <;> split <;> omega

theorem starveChannel_starved (d g : Int) (ch : Channel) : (starveChannel d g ch).sequencer.counters.starved =
    if ch.state = .running ∧ StarvedBy d g then satInc ch.sequencer.counters.starved 65535
    else ch.sequencer.counters.starved := by
  unfold starveChannel
  by_cases h : ch.state = .running ∧ starved d g = true
  · rw [if_pos h, if_pos (h.imp_right (starved_iff d g).1)]; rfl
  · rw [if_neg h, if_neg (mt (And.imp_right (starved_iff d g).2) h)]

/-- The timer and the lock unit after the own rollover, and the line by the pacer flag (R1, R2, R5). -/
theorem rollover_timer_lock {s : State} (h : Ready s) :
    (rollover s).timer.phase = 0 ∧ (rollover s).timer.round = s.timer.round + 1 ∧
    (rollover s).lock = (rolloverLock s).lock ∧ OnlyStarved s (rollover s) ∧
    ((rollover s).lock.pacer = true → (rollover s).link.line =
      some (.mark ⟨BitVec.ofNat 8 s.loader.settings.station, s.timer.round + 1, s.loader.digest⟩ false)) ∧
    ((rollover s).lock.pacer = false → s.link.line = none → (rollover s).link.line = none) := by
  obtain ⟨hlock, hstarved, -⟩ := startsFrom_quiet (startsFrom_turned s) (rollover_settled h) (lockRollover_quiet _ _ _)
  have htimer : (rollover s).timer = (settleRound (turned s) (rolloverLock s).reports).timer := by
    rw [rollover_settled h]; rfl
  refine ⟨by rw [htimer, settleRound_phase]; rfl, by rw [htimer, settleRound_roundNumber]; rfl, hlock, hstarved,
    fun hp => ?_, fun hp hline => ?_⟩
  · rw [rollover_of_ready h, sendMark_lock] at hp
    rw [rollover_of_ready h, sendMark_link, if_pos hp]
    show some (LineFrame.mark ⟨BitVec.ofNat 8 (settleRound _ _).loader.settings.station, (settleRound _ _).timer.round,
      (settleRound _ _).loader.digest⟩ false) = _
    rw [settleRound_loader, settleRound_roundNumber]; rfl
  · rw [rollover_of_ready h, sendMark_lock] at hp
    rw [rollover_of_ready h, sendMark_link, if_neg (by rw [hp]; decide)]
    exact settle_line_none true (s := turned s) hline _

/-- Settles O25: every block at the own rollover. -/
theorem ownRolloverStartsTheRound : Obligations.OwnRolloverStartsTheRound := by
  unfold Obligations.OwnRolloverStartsTheRound
  refine ⟨fun s h => congrArg Host.Outcome.next (rollover_of_not_ready h), fun s h => ?_⟩
  obtain ⟨hphase, hround, hlock, hstarved, hmark, hnone⟩ := rollover_timer_lock h
  have hwalk : (rollover s).walk = (settleRound (turned s) (rolloverLock s).reports).walk := by
    rw [rollover_settled h]; rfl
  have hheard : (rollover s).heard = clearRound s.heard := by
    rw [rollover_of_ready h, sendMark_heard, settleRound_heard]; rfl
  have hresults := settleRound_results (turned s) (rolloverLock s).reports
  rw [← hwalk] at hresults
  obtain ⟨hwalking, hhall, hlocal⟩ := hresults
  refine ⟨rollover s, rfl, rollover_frame s, hphase, hround, by rw [hlock]; exact lockRollover_backoff _ _ _,
    fun hs hl => ?_, hheard, hwalking, hhall, hlocal, hmark, hnone, hstarved, fun k => ?_⟩
  · rw [hlock, rolloverLock, lockRollover_listens hs hl]
  · have hchannel := settleRound_channel_quiet (s := turned s) (r := (rolloverLock s).reports)
      (lockRollover_quiet _ _ _) k
    rw [← hwalk] at hchannel
    have hch : (rollover s).channels.get k = starveChannel (demandOf s.loader.settings s.loader.programs k
        (s.channels.get k)).quanta ((rollover s).walk.grants.get k) (s.channels.get k) := by
      rw [← show (turned s).channels = s.channels from rfl]
      refine Eq.trans ?_ hchannel
      rw [rollover_settled h]; rfl
    rw [hch, starveChannel_starved]

theorem lowestPresent_iff (n : Nat) (map : BitVec 48) :
    lowestPresent n map = true ↔ inMap map n = true ∧ ∀ j, 1 ≤ j → j < n → inMap map j = false := by
  unfold lowestPresent
  simp only [Bool.and_eq_true, List.all_eq_true, List.mem_range, Bool.not_eq_true']
  refine and_congr_right fun _ => ⟨fun h j _ hj => h j hj, fun h j hj => ?_⟩
  rcases Nat.eq_zero_or_pos j with rfl | hpos
  · rfl
  · exact h j hpos hj

/-- Settles O26: the self start and the takeover. -/
theorem pacerRoleIsTaken : Obligations.PacerRoleIsTaken := by
  unfold Obligations.PacerRoleIsTaken
  refine ⟨fun s h hs hl => ?starts, fun s h hs hp => ?takeover⟩
  case starts =>
    have hroll : rolloverLock s = _ := lockRollover_starts hs hl
    obtain ⟨hphase, hround, hlock, hstarved, hmark, -⟩ := rollover_timer_lock h
    rw [hroll] at hlock
    have hentered : (rolloverLock s).reports.entered = true := by rw [hroll]
    have hcame : (isReady s && decide (s.lock.state = .search) && decide (s.lock.listen = 1)) = true := by
      rw [(isReady_iff s).2 h, decide_eq_true hs, decide_eq_true hl]; rfl
    refine ⟨rollover s, congrArg Host.Outcome.next (if_pos hcame), rollover_frame s, hstarved, hlock, hphase, hround,
      hmark (by rw [hlock]), fun hm => ?_, fun hm hoff => ?_⟩
    · rw [rollover_of_ready h, sendMark_member, ← settle_true, settle_member,
        settleOut_entered (s := turned s) hm (lockRollover_quiet _ _ _) hentered]
      rfl
    · have hqueue := settle_queue true (turned s) (rolloverLock s).reports
      have hout : settleOut true (turned s) (rolloverLock s).reports = enterJoining s.member :=
        settleOut_entered (s := turned s) hm (lockRollover_quiet _ _ _) hentered
      have hevents : settleEvents true (turned s) (rolloverLock s).reports =
          [.pacerSelfStart, .memberJoining .outside] := by
        show eitherOrder _ (cautionReport s.walk s.heard.disagreement).2 (pacerEvents _ _ _ ++ _) = _
        rw [hout, cautionReport_off hoff, hroll]
        show [StationEvent.pacerSelfStart, .memberJoining s.member.state] = _
        rw [hm]
      rw [rollover_of_ready h, sendMark_capture, ← settle_true, hqueue, hevents]; rfl
  case takeover =>
    have hroll : rolloverLock s = _ := lockRollover_locked hs
    obtain ⟨-, hround, hlock, -, hmark, -⟩ := rollover_timer_lock h
    have hentry : ∀ ev, (rolloverLock s).reports.pacer = some ev → s.capture.station.entries.length ≤ 1 →
        .station s.tick ev (s.timer.round + 1) ∈ (rollover s).capture.station.entries := fun ev hev hlen => by
      rw [← hround]
      exact startsFrom_entry (startsFrom_turned s) (rollover_settled h) (mem_settleEvents_of_pacer hev) hlen
    refine ⟨rollover s, rfl, rollover_frame s, ?_⟩
    by_cases htake : s.lock.pacer = false ∧ 2 ≤ s.lock.missed ∧ s.lock.backoff - 1 = 0 ∧
        lowestPresent s.loader.settings.station s.heard.map = true
    · rw [if_pos htake] at hroll
      obtain ⟨-, hmissed, hbackoff, hlow⟩ := htake
      obtain ⟨hin, hothers⟩ := (lowestPresent_iff _ _).1 hlow
      rw [hroll] at hlock
      have hline := hmark (by rw [hlock])
      rw [hlock]
      exact ⟨⟨fun _ => ⟨hmissed, hbackoff, hin, hothers⟩, fun _ => rfl⟩, hs, rfl, rfl,
        fun _ => ⟨rfl, hline, hentry _ (by rw [hroll])⟩, nofun⟩
    · rw [if_neg htake] at hroll
      rw [hlock, hroll]
      have hfalse : (backoffDown s.lock).pacer = false := hp
      refine ⟨⟨fun hx => absurd (hfalse.symm.trans hx) (by decide), fun ⟨hmissed, hbackoff, hin, hothers⟩ => ?_⟩, hs, rfl, rfl,
        fun hx => absurd (hfalse.symm.trans hx) (by decide), fun _ => rfl⟩
      exact absurd ⟨hp, hmissed, hbackoff, (lowestPresent_iff _ _).2 ⟨hin, hothers⟩⟩ htake

end Sys2Proof.Machine
end

section
/-! PROOFS. The control period at the station: which channel works, what its marks are, the filters, the bands and the causes of the
table (R74 to R79, R91, R97). -/

namespace Sys2Proof.Machine

/-! ### A working channel in a control period -/

/-- What a working channel makes of a control period. -/
abbrev periodOf (s : State) (inp : PeriodInput) (k : Fin 4) : PeriodOut :=
  channelPeriod (periodEnv s inp k) (s.channels.get k)

section
variable {s : State} {inp : PeriodInput} {k : Fin 4}

theorem Works.out (h : Works s k) : channelOut s inp k = periodOf s inp k := if_pos h.2

theorem Works.channel (h : Works s k) : (periodState s inp).channels.get k = (periodOf s inp k).ch := by
  rw [periodState_channel s inp ((isReady_iff s).2 h.1), h.out]

theorem Works.queue (h : Works s k) : (periodState s inp).capture.channels.get k =
    offerAll (s.capture.channels.get k) (periodOf s inp k).entries := by
  rw [periodState_queue s inp ((isReady_iff s).2 h.1), h.out]

/-- A thing that comes about at a working channel comes about in the period. -/
theorem Works.comes_about (h : Works s k) {test : Marks → Bool} (ht : test (periodOf s inp k).marks = true) :
    anyChannel s inp test = true := by
  have hk : test (channelOut s inp k).marks = true := by rw [h.out]; exact ht
  unfold anyChannel
  rw [(isReady_iff s).2 h.1, Bool.true_and]
  fin_cases k <;> simp_all

end

theorem periodFrame (s : State) (inp : PeriodInput) : PeriodFrame s (periodState s inp) :=
  ⟨periodState_tick s inp, periodState_pending s inp, periodState_draws s inp, periodState_loader s inp, periodState_timer s inp,
    periodState_link s inp, periodState_lock s inp, periodState_heard s inp, periodState_walk s inp, periodState_member s inp,
    periodState_console s inp, periodState_buffer s inp, periodState_port s inp, periodState_station s inp⟩

theorem periodWhen_true {cond : Bool} (h : cond = true) (inp : PeriodInput) (s : State) :
    periodWhen cond inp s = periodState s inp := if_pos h

theorem periodState_ready {s : State} (h : Ready s) (inp : PeriodInput) :
    (periodState s inp).framePos = nextPos s.loader.settings.pFrame s.framePos ∧
    (periodState s inp).stopLine = filterSample s.stopLine inp.stopLine := by
  unfold periodState; rw [if_pos ((isReady_iff s).2 h)]; exact ⟨rfl, rfl⟩

theorem periodState_not_ready {s : State} (h : ¬ Ready s) (inp : PeriodInput) :
    periodState s inp = s.setTick (s.tick + 1) := if_neg (mt (isReady_iff s).1 h)

/-- Settles O4: the tick count in every start-up state, the frame counter and the stop line in READY. -/
theorem controlPeriodOfTheStation : Obligations.ControlPeriodOfTheStation := by
  unfold Obligations.ControlPeriodOfTheStation
  refine fun inp s => ⟨periodState s inp, rfl, periodFrame s inp, fun h => ?_, fun h => ?_⟩
  · obtain ⟨hpos, hstop⟩ := periodState_ready h inp
    refine ⟨hpos, hstop, fun k hk => ?_⟩
    obtain ⟨hch, hentries⟩ := channelOut_disabled s inp k hk
    rw [periodState_channel s inp ((isReady_iff s).2 h), periodState_queue s inp ((isReady_iff s).2 h), hch, hentries]
    exact ⟨rfl, rfl⟩
  · rw [periodState_not_ready h]; exact ⟨rfl, rfl, rfl, rfl⟩

/-! ### Filters (R78, R79) -/

theorem filterSample_filteredBy (f : Filter) (b : Bool) : FilteredBy f b (filterSample f b) := by
  refine ⟨fun h => ?_, fun h => ⟨fun hr => filterSample_early h (by omega), fun hr => filterSample_third h (by omega)⟩⟩
  rw [h]; exact filterSample_same f

/-- Stage 3 leaves what stage 1 measured, the hold mode and the persistence counts. -/
theorem decided_kept (e : PeriodEnv) (ch : Channel) : Kept (measured e ch) (decided e ch).ch :=
  (recordAll_kept e (causesIn e ch) (Work.of (measured e ch))).toKept.trans
    (decideStage_cases e (causesIn e ch) (Work.of (measured e ch))).kept

theorem channelPeriod_feedback (e : PeriodEnv) (ch : Channel) :
    (channelPeriod e ch).ch.feedback = filterSample ch.feedback e.inp.feedback := by
  rw [period_feedback, (decided_kept e ch).feedback, measured_feedback]

theorem channelPeriod_fault (e : PeriodEnv) (ch : Channel) :
    (channelPeriod e ch).ch.fault = filterSample ch.fault e.inp.fault := by
  rw [period_fault, (decided_kept e ch).fault, measured_fault]

theorem filterChanged_iff (e : PeriodEnv) (ch : Channel) : (channelPeriod e ch).marks.filterChanged =
    (decide ((filterSample ch.feedback e.inp.feedback).level ≠ ch.feedback.level) ||
      decide ((filterSample ch.fault e.inp.fault).level ≠ ch.fault.level)) := rfl

/-- Settles O5: the third differing sample, and what a period makes of a sample. -/
theorem filteredLevelsChange : Obligations.FilteredLevelsChange := by
  unfold Obligations.FilteredLevelsChange
  refine ⟨fun inp s h hrun hne => ?stop, fun inp s k h => ⟨fun ⟨hrun, hne⟩ => ?feedback, fun ⟨hrun, hne⟩ => ?fault⟩,
    fun inp s h => ?period⟩
  case stop =>
    have hthird : filterSample s.stopLine inp.stopLine = ⟨inp.stopLine, 0⟩ := filterSample_third hne (by omega)
    have hcame : (isReady s && decide ((filterSample s.stopLine inp.stopLine).level ≠ s.stopLine.level)) = true := by
      rw [(isReady_iff s).2 h, hthird, decide_eq_true hne]; rfl
    refine ⟨periodState s inp, congrArg Host.Outcome.next (periodWhen_true hcame inp s), periodFrame s inp, ?_⟩
    rw [(periodState_ready h inp).2, hthird]
  case feedback =>
    have hthird := filterSample_third (f := (s.channels.get k).feedback) hne (by omega)
    have hcame : (periodOf s inp k).marks.filterChanged = true := by
      rw [filterChanged_iff]
      refine Bool.or_eq_true_iff.2 (.inl (decide_eq_true ?_))
      show (filterSample _ (inp.channels.get k).feedback).level ≠ _
      rw [hthird]; exact hne
    refine ⟨periodState s inp, congrArg Host.Outcome.next (periodWhen_true (h.comes_about hcame) inp s), periodFrame s inp, ?_⟩
    rw [h.channel, channelPeriod_feedback]; exact hthird
  case fault =>
    have hthird := filterSample_third (f := (s.channels.get k).fault) hne (by omega)
    have hcame : (periodOf s inp k).marks.filterChanged = true := by
      rw [filterChanged_iff]
      refine Bool.or_eq_true_iff.2 (.inr (decide_eq_true ?_))
      show (filterSample _ (inp.channels.get k).fault).level ≠ _
      rw [hthird]; exact hne
    refine ⟨periodState s inp, congrArg Host.Outcome.next (periodWhen_true (h.comes_about hcame) inp s), periodFrame s inp, ?_⟩
    rw [h.channel, channelPeriod_fault]; exact hthird
  case period =>
    refine ⟨periodState s inp, rfl, ?_, fun k hk => ?_⟩
    · rw [(periodState_ready h inp).2]; exact filterSample_filteredBy _ _
    · rw [hk.channel, channelPeriod_feedback, channelPeriod_fault]
      exact ⟨filterSample_filteredBy _ _, filterSample_filteredBy _ _⟩

/-! ### Bands (R97) -/

section band
variable {st : Settings} {x : Int}

theorem bandFor_highest :
    HighestBand (fun n => n = 0 ∨ thresholdOf st n ≤ x) 3 (bandFor st x).val := by
  have reaches : ∀ j : Nat, 0 < j → j ≤ 3 → (j = 1 ∧ thresholdOf st j = st.t1) ∨ (j = 2 ∧ thresholdOf st j = st.t2) ∨
      (j = 3 ∧ thresholdOf st j = st.t3) := by
    intro j h0 h3
    have hj : j = 1 ∨ j = 2 ∨ j = 3 := by omega
    rcases hj with rfl | rfl | rfl
    · exact .inl ⟨rfl, rfl⟩
    · exact .inr (.inl ⟨rfl, rfl⟩)
    · exact .inr (.inr ⟨rfl, rfl⟩)
  have hnot : ∀ b : Nat, (∀ j, b < j → j ≤ 3 → x < thresholdOf st j) →
      ∀ j, b < j → j ≤ 3 → ¬ (j = 0 ∨ thresholdOf st j ≤ x) := fun b h j hb hj hx => by
    have := h j hb hj
    rcases hx with rfl | hx
    · omega
    · omega
  unfold bandFor
  split
  · next h => exact ⟨Nat.le_refl 3, .inr h, hnot 3 fun j hb hj => by omega⟩
  · next h3 =>
    split
    · next h => exact ⟨by decide, .inr h, hnot 2 fun j hb hj => by
        rcases reaches j (by omega) hj with ⟨rfl, hv⟩ | ⟨rfl, hv⟩ | ⟨rfl, hv⟩
        · exact absurd hb (by decide)
        · exact absurd hb (by decide)
        · omega⟩
    · next h2 =>
      split
      · next h => exact ⟨by decide, .inr h, hnot 1 fun j hb hj => by
          rcases reaches j (by omega) hj with ⟨rfl, hv⟩ | ⟨rfl, hv⟩ | ⟨rfl, hv⟩
          · exact absurd hb (by decide)
          · omega
          · omega⟩
      · next h1 => exact ⟨by decide, .inl rfl, hnot 0 fun j hb hj => by
          rcases reaches j hb hj with ⟨rfl, hv⟩ | ⟨rfl, hv⟩ | ⟨rfl, hv⟩ <;> omega⟩

theorem bandBelow_highest {b : Fin 4} (h0 : 0 < b.val) :
    HighestBand (fun n => n = 0 ∨ thresholdOf st n - st.hyst ≤ x) (b.val - 1) (bandBelow st x b).val := by
  have hb := b.isLt
  have two : thresholdOf st 2 = st.t2 := rfl
  have one : thresholdOf st 1 = st.t1 := rfl
  unfold bandBelow
  split
  · next h =>
    obtain ⟨hb2, hx⟩ := h
    exact ⟨show 2 ≤ b.val - 1 by omega, .inr hx, fun j hj hle => by
      have hj : 2 < j := hj
      omega⟩
  · next h2 =>
    split
    · next h =>
      obtain ⟨hb1, hx⟩ := h
      refine ⟨show 1 ≤ b.val - 1 by omega, .inr hx, fun j hj hle hreach => h2 ?_⟩
      have hj : 1 < j := hj
      obtain rfl : j = 2 := by omega
      rcases hreach with h | h
      · cases h
      · exact ⟨by omega, h⟩
    · next h1 =>
      refine ⟨Nat.zero_le _, .inl rfl, fun j hj hle hreach => ?_⟩
      have hj : 0 < j := hj
      obtain rfl | rfl : j = 1 ∨ j = 2 := by omega
      · rcases hreach with h | h
        · cases h
        · exact h1 ⟨by omega, h⟩
      · rcases hreach with h | h
        · cases h
        · exact h2 ⟨by omega, h⟩

/-- A band rises where the threshold of the next band is reached. -/
theorem lt_bandFor_iff (h12 : st.t1 < st.t2) (h23 : st.t2 < st.t3) (b : Fin 4) :
    b < bandFor st x ↔ b.val < 3 ∧ thresholdOf st (b.val + 1) ≤ x := by
  have one : thresholdOf st 1 = st.t1 := rfl
  have two : thresholdOf st 2 = st.t2 := rfl
  have three : thresholdOf st 3 = st.t3 := rfl
  rw [Fin.lt_def]
  unfold bandFor
  have hb := b.isLt
  obtain hb | hb | hb | hb : b.val = 0 ∨ b.val = 1 ∨ b.val = 2 ∨ b.val = 3 := by omega
  all_goals rw [hb]; split_ifs <;> simp <;> omega

theorem bandThreshold_eq {b : Fin 4} (h : 0 < b.val) : bandThreshold st b = thresholdOf st b.val := by
  fin_cases b
  · exact absurd h (by decide)
  all_goals rfl

end band

/-- Settles O24: the first period, rising, falling and staying. -/
theorem bandFollowsTemperature : Obligations.BandFollowsTemperature := by
  unfold Obligations.BandFollowsTemperature
  intro inp s k h h12 h23
  refine ⟨periodState s inp, bandNext s.loader.settings (inp.channels.get k).t.toInt (s.channels.get k).band, rfl, ?_,
    fun hn => ?_, fun b hb => ⟨fun hrise => ?_, fun hn => ⟨fun hfall => ?_, fun hstay => ?_⟩⟩⟩
  · rw [h.channel, period_band, (decided_kept _ _).band, measured_band]; rfl
  · rw [hn]; exact bandFor_highest
  · rw [hb]; unfold bandNext; dsimp only
    rw [if_pos ((lt_bandFor_iff h12 h23 b).2 hrise)]
    exact bandFor_highest
  · rw [hb]; unfold bandNext; dsimp only
    rw [if_neg (mt (lt_bandFor_iff h12 h23 b).1 hn), if_pos (by rw [bandThreshold_eq hfall.1]; exact hfall)]
    exact bandBelow_highest hfall.1
  · rw [hb]; unfold bandNext; dsimp only
    rw [if_neg (mt (lt_bandFor_iff h12 h23 b).1 hn),
      if_neg (fun hx => hstay (by rw [bandThreshold_eq hx.1] at hx; exact hx))]

/-! ### The table of causes (R91) -/

theorem armedRun_iff (c : ChannelState) :
    armedRun c = true ↔ c ∈ ([.closing, .running, .held, .stopping] : List ChannelState) := by
  cases c <;> decide

theorem armedClosed_iff (c : ChannelState) : armedClosed c = true ↔ DeviationArmed c := by
  cases c <;> decide

theorem armedLimits_iff (c : ChannelState) : armedLimits c = true ↔ LimitsArmed c := by
  cases c <;> decide

theorem persist_detects (armed cond : Bool) (top n : Nat) :
    (persist armed cond top n).2 = true ↔ armed = true ∧ cond = true ∧ n + 1 = top := by
  unfold persist
  cases armed <;> cases cond <;> simp

theorem mem_singleton_if {p : Prop} [Decidable p] {a c : Cause} : (c ∈ if p then [a] else []) ↔ c = a ∧ p := by
  split
  · next h => simp [h]
  · next h => simp [h]

theorem overCond_iff (l : Limits) (v : Word) : overCond l v = true ↔ l.vMax < v.toNat := decide_eq_true_iff
theorem tempCond_iff (l : Limits) (t : Word) : tempCond l t = true ↔ l.tMax < t.toInt := decide_eq_true_iff
theorem underCond_iff (l : Limits) (v : Word) (closed : Bool) : underCond l v closed = true ↔ closed = true ∧ v.toNat < l.vMin := by
  unfold underCond; rw [Bool.and_eq_true, decide_eq_true_iff]
theorem deviationCond_iff (tol : Nat) (i : Word) (sp : Int) (enabled : Bool) :
    deviationCond tol i sp enabled = true ↔ enabled = true ∧ tol < (i.toInt - sp).natAbs := by
  unfold deviationCond; rw [Bool.and_eq_true, decide_eq_true_iff]

/-- Settles O15: each part of stage 2 against its row of the table. -/
theorem causesDetectedByTheTable : Obligations.CausesDetectedByTheTable := by
  unfold Obligations.CausesDetectedByTheTable
  intro inp s k c _
  unfold causesOf detected timedCauses
  simp only [List.mem_append, mem_singleton_if, persist_detects, Bool.and_eq_true, Bool.not_eq_true', armedRun_iff,
    armedClosed_iff, armedLimits_iff, overCond_iff, underCond_iff, tempCond_iff, deviationCond_iff, and_assoc, or_assoc]
  exact Iff.rfl

end Sys2Proof.Machine
end

section
/-! PROOFS. The outputs of a control period: the contactor and the converter by the state reached, the setpoint by target, grant and ramp
(R83, R99 to R107). -/

namespace Sys2Proof.Machine

/-! ### The converter runs only through a closed contactor (R83) -/

/-- OPENING ends in FAULTED where a cause is recorded, else in ENDED (R88). -/
theorem leaveOpening_state (e : PeriodEnv) (w : Work) :
    (leaveOpening e w).ch.state = if w.ch.record.isSome = true then .faulted else .ended := by
  unfold leaveOpening; dsimp only; split <;> rfl

/-- Where stage 3 reaches a state with a converter, the filtered feedback reads closed: an open contactor there is a cause that is
detected, and CLOSING ends by a closed one. -/
theorem Decision.closed {e : PeriodEnv} {det : List Cause} {w w' : Work} (h : Decision e det w w')
    (hnil : det = [] → armedClosed w.ch.state = true → w.ch.feedback.level = true) (hr : regulates w'.ch.state = true) :
    w'.ch.feedback.level = true := by
  rw [h.kept.feedback]
  have hfrom : det = [] → w.ch.state = .running ∨ w.ch.state = .held ∨ w.ch.state = .stopping →
      w.ch.feedback.level = true := fun hd hs => hnil hd (by rcases hs with hs | hs | hs <;> (rw [hs]; rfl))
  cases h with
  | rests hs =>
    exfalso
    rcases (takeRun_cases e w).state with ht | ht | ht <;> rw [ht] at hr
    · rcases hs with hs | hs <;> (rw [hs] at hr; cases hr)
    · cases hr
    · cases hr
  | fast r sr hs h => cases hr
  | closing hs hd hreq =>
    generalize hw : closingWork e w = w' at hr
    cases hw ▸ closingWork_cases e w with
    | secure r hf hx => exact hf
    | start hf => exact hf
    | limit hf => cases hr
    | waits hf =>
      have hr : regulates w.ch.state = true := hr
      rw [hs] at hr; cases hr
  | secure r hs hd hreq => exact hfrom hd (hs.imp_right .inl)
  | hold hs hd hreq hh => exact hfrom hd (.inl hs)
  | run hs hd hreq hh => exact hfrom hd (.inl hs)
  | held hs hd hreq hh => exact hfrom hd (.inr (.inl hs))
  | release hs hd hreq hh => exact hfrom hd (.inr (.inl hs))
  | stopped hs hd hreq hz => exact hfrom hd (.inr (.inr hs))
  | stopping hs hd hreq hz => exact hfrom hd (.inr (.inr hs))
  | opening hs =>
    exfalso
    generalize hw : openingWork e w = w' at hr
    have hleaves : ∀ v : Work, regulates (leaveOpening e v).ch.state ≠ true := fun v => by
      rw [leaveOpening_state]; split <;> decide
    cases hw ▸ openingWork_cases e w with
    | leaves => exact hleaves _ hr
    | limit => exact hleaves _ hr
    | waits =>
      have hr : regulates w.ch.state = true := hr
      rw [hs] at hr; cases hr
  | faulted hs => rw [hs] at hr; cases hr

theorem decided_closed (e : PeriodEnv) (ch : Channel) (hr : regulates (decided e ch).ch.state = true) :
    (decided e ch).ch.feedback.level = true := by
  refine (decideStage_cases e (causesIn e ch) (Work.of (measured e ch))).closed (fun hd ha => ?_) hr
  rw [(recordAll_kept e (causesIn e ch) (Work.of (measured e ch))).feedback]
  refine closed_of_detected_nil (c := measure e ch) hd ?_
  rw [recordAll_touches] at ha; exact ha

theorem regulates_iff (c : ChannelState) : regulates c = true ↔ DeviationArmed c := by
  cases c <;> decide

theorem driveOutputs_setpointWord (ch : Channel) : (driveOutputs ch).setpointWord =
    setpointWord (if (driveOutputs ch).enabled = true then (driveOutputs ch).setpoint else 0) := by
  unfold driveOutputs; cases ch.state <;> rfl

theorem outputStages_setpointWord (e : PeriodEnv) (w : Work) : (outputStages e w).setpointWord =
    setpointWord (if (outputStages e w).enabled = true then (outputStages e w).setpoint else 0) :=
  driveOutputs_setpointWord (regulate (regulateEnv e w) w.ch)

theorem outputStages_regulator (e : PeriodEnv) (w : Work) :
    (outputStages e w).regulator = (regulate (regulateEnv e w) w.ch).regulator := by
  show (driveOutputs _).regulator = _
  rw [driveOutputs_touches]

theorem outputStages_setpoint (e : PeriodEnv) (w : Work) :
    (outputStages e w).setpoint = (regulate (regulateEnv e w) w.ch).setpoint := driveOutputs_setpoint _

theorem period_setpointWord (e : PeriodEnv) (ch : Channel) : (channelPeriod e ch).ch.setpointWord =
    setpointWord (if (channelPeriod e ch).ch.enabled = true then (channelPeriod e ch).ch.setpoint else 0) := by
  rw [channelPeriod_ch, outputStages_setpointWord]

/-- Settles O19: the outputs by the state reached, and the contactor under the converter. -/
theorem converterOnlyThroughClosedContactor : Obligations.ConverterOnlyThroughClosedContactor := by
  unfold Obligations.ConverterOnlyThroughClosedContactor
  intro inp s k h
  refine ⟨periodState s inp, rfl, ?_⟩
  rw [h.channel]
  refine ⟨?_, fun hen => ?_, ?_, period_setpointWord _ _⟩
  · rw [period_enabled, period_state]; exact regulates_iff _
  · rw [period_feedback]
    exact decided_closed _ _ (by rw [← period_enabled]; exact hen)
  · rw [period_drive, period_state]
    cases (decided (periodEnv s inp k) (s.channels.get k)).ch.state <;> decide

/-! ### Stage 4 (R99 to R106) -/

/-- The regulator where it works. -/
theorem regulate_works {e : RegulateEnv} {ch : Channel} (h : regulates ch.state = true) :
    (regulate e ch).regulator.base = baseTarget e ch.state (cvOf e ch.state ch.regulator.cv) ∧
    (regulate e ch).regulator.cv = cvOf e ch.state ch.regulator.cv ∧
    (regulate e ch).regulator.limited = grantLimit e.q e.grant e.v (bandLimit e.lim (regulate e ch).regulator.base) ∧
    (regulate e ch).setpoint = rampSetpoint e.set.ramp ch.setpoint
      (cutSetpoint (envelopeTop e.lim e.q e.grant e.v) (envelopeBottom e.lim e.q e.grant e.v) ch.setpoint)
      (regulate e ch).regulator.limited ∧
    (regulate e ch).regulator.limitedFlag = (decide ((regulate e ch).regulator.limited.natAbs <
      (regulate e ch).regulator.base.natAbs) || decide ((regulate e ch).setpoint ≠ (regulate e ch).regulator.limited)) := by
  unfold regulate; rw [if_pos h]; exact ⟨rfl, rfl, rfl, rfl, rfl⟩

/-- The regulator where it rests. -/
theorem regulate_idle {e : RegulateEnv} {ch : Channel} (h : regulates ch.state = false) :
    (regulate e ch).setpoint = 0 ∧ (regulate e ch).regulator.base = 0 ∧ (regulate e ch).regulator.limited = 0 ∧
    (regulate e ch).regulator.limitedFlag = false := by
  unfold regulate; rw [if_neg (by simp [h])]; exact ⟨rfl, rfl, rfl, rfl⟩

/-- The limited target by the signs of target and grant (R102, R103). -/
theorem limitedTarget_cases (l : Limits) (q : Nat) (g : Int) (v : Word) (b : Int) :
    (0 < b → 0 < g → grantLimit q g v (bandLimit l b) = min (min b l.chgMax) (grantCurrent q g v)) ∧
    (b < 0 → g < 0 → grantLimit q g v (bandLimit l b) = max (max b (-(l.disMax : Int))) (-(grantCurrent q g v : Int))) ∧
    (¬ (0 < b ∧ 0 < g) → ¬ (b < 0 ∧ g < 0) → grantLimit q g v (bandLimit l b) = 0) := by
  refine ⟨fun hb hg => ?_, fun hb hg => ?_, fun hp hn => ?_⟩
  · rw [grantLimit_of_pos hg]; unfold bandLimit; omega
  · rw [grantLimit_of_neg hg]; unfold bandLimit; omega
  · rcases lt_trichotomy g 0 with hg | hg | hg
    · rw [grantLimit_of_neg hg]; unfold bandLimit; omega
    · rw [hg, grantLimit_zero]
    · rw [grantLimit_of_pos hg]; unfold bandLimit; omega

section
variable (e : PeriodEnv) (ch : Channel)

/-- What stage 4 made of the channel at the end of stage 3. -/
abbrev regulated : Channel := regulate (regulateEnv e (worked e ch)) (worked e ch).ch

theorem period_regulator : (channelPeriod e ch).ch.regulator = (regulated e ch).regulator := by
  rw [channelPeriod_ch, outputStages_regulator]

theorem period_setpoint : (channelPeriod e ch).ch.setpoint = (regulated e ch).setpoint := by
  rw [channelPeriod_ch, outputStages_setpoint]

/-- The limits of the band decided in stage 1 are in force in stage 4. -/
theorem worked_limits : e.limits (worked e ch).ch = limitsOf e.st (bandNext e.st e.inp.t.toInt ch.band) e.k := by
  have hband : (worked e ch).ch.band = some (bandNext e.st e.inp.t.toInt ch.band) := by
    rw [worked_touches]; exact (decided_kept e ch).band
  unfold PeriodEnv.limits bandOf; rw [hband]; rfl

/-- Where the regulator works it starts from the setpoint of before. -/
theorem worked_setpoint (h : regulates (worked e ch).ch.state = true) : (worked e ch).ch.setpoint = ch.setpoint := by
  rw [worked_state] at h
  have hset : (worked e ch).ch.setpoint = (decided e ch).ch.setpoint := by rw [worked_touches]
  rw [hset, decided, (decideStage_cases e (causesIn e ch) (Work.of (measured e ch))).setpoint h,
    (recordAll_kept e (causesIn e ch) (Work.of (measured e ch))).setpoint]
  rfl

end

/-- The setpoint has the sign of the grant and carries no more power than it (R105). -/
theorem regulate_inside_grant (e : RegulateEnv) (ch : Channel) :
    ((regulate e ch).setpoint = 0 ∨ (0 < (regulate e ch).setpoint ∧ 0 < e.grant) ∨
      ((regulate e ch).setpoint < 0 ∧ e.grant < 0)) ∧
    (regulate e ch).setpoint.natAbs * max e.v.toNat 1 ≤ e.grant.natAbs * e.q * 10000 := by
  cases hr : regulates ch.state
  · rw [(regulate_idle hr).1]; exact ⟨.inl rfl, by simp⟩
  · obtain ⟨hbottom, htop⟩ := regulate_within e ch hr (limitedTarget_within_envelope e.lim e.q e.grant e.v _)
    have hcurrent : grantCurrent e.q e.grant e.v * max e.v.toNat 1 ≤ e.grant.natAbs * e.q * 10000 :=
      Nat.div_mul_le_self _ _
    have hbound (hle : (regulate e ch).setpoint.natAbs ≤ grantCurrent e.q e.grant e.v) :
        (regulate e ch).setpoint.natAbs * max e.v.toNat 1 ≤ e.grant.natAbs * e.q * 10000 :=
      (Nat.mul_le_mul_right _ hle).trans hcurrent
    rcases lt_trichotomy e.grant 0 with hg | hg | hg
    · rw [envelopeBottom_of_neg _ _ _ hg] at hbottom
      rw [envelopeTop_of_nonpos _ _ _ hg.le] at htop
      exact ⟨by omega, hbound (by omega)⟩
    · rw [envelopeBottom_of_nonneg _ _ _ hg.ge] at hbottom
      rw [envelopeTop_of_nonpos _ _ _ hg.le] at htop
      exact ⟨by omega, hbound (by omega)⟩
    · rw [envelopeBottom_of_nonneg _ _ _ hg.le] at hbottom
      rw [envelopeTop_of_pos _ _ _ hg] at htop
      exact ⟨by omega, hbound (by omega)⟩

/-- Settles O20: the setpoint lies in the envelope, which the grant's current bounds. -/
theorem setpointStaysInsideTheGrant : Obligations.SetpointStaysInsideTheGrant := by
  unfold Obligations.SetpointStaysInsideTheGrant
  intro inp s k h
  refine ⟨periodState s inp, rfl, ?_⟩
  rw [h.channel, period_setpoint]
  exact regulate_inside_grant (regulateEnv (periodEnv s inp k) (worked (periodEnv s inp k) (s.channels.get k))) _

end Sys2Proof.Machine
end

section
/-! PROOFS. Stage 3 case by case, the entries of a period, and the fault record (R75, R77, R84, R93, R94, R156). -/

namespace Sys2Proof.Machine

/-! ### What stage 3 decides -/

section
variable {e : PeriodEnv} {det : List Cause} {w : Work}

theorem decideStage_rests (hs : w.ch.state = .idle ∨ w.ch.state = .ended) : decideStage e [] w = takeRun e w := by
  unfold decideStage; dsimp only [List.foldl]
  rcases hs with hs | hs <;> rw [hs]

/-- A detected cause makes a fast stop in every closed state (R93). -/
theorem decideStage_fault (hs : armedRun w.ch.state = true) (hd : det ≠ []) :
    decideStage e det w = fastStop e .fault (faultStepReason det) (det.foldl (recordFault e) w) := by
  unfold decideStage; dsimp only
  rw [show (det.foldl (recordFault e) w).ch.state = w.ch.state by rw [recordAll_touches]]
  cases h : w.ch.state <;> first | exact if_pos hd | (rw [h] at hs; cases hs)

/-- A posted FAST stop is taken in every closed state (R77, R87). -/
theorem decideStage_fast (hs : armedRun w.ch.state = true) (hr : w.ch.stopRequest = .fast) :
    decideStage e [] w = fastStop e .forceStop .forceStop w := by
  unfold decideStage; dsimp only [List.foldl]
  cases h : w.ch.state
  case closing => exact if_pos hr
  case running => dsimp only; rw [if_neg (by simp), hr]
  case held => dsimp only; rw [if_neg (by simp), hr]
  case stopping => exact if_pos hr
  all_goals rw [h] at hs; cases hs

theorem decideStage_closing (hs : w.ch.state = .closing) (hr : w.ch.stopRequest ≠ .fast) :
    decideStage e [] w = closingWork e w := by
  unfold decideStage; dsimp only [List.foldl]
  rw [hs]; dsimp only
  rw [if_neg (by simp), if_neg hr]

/-- A posted SECURE stop is taken in RUNNING and HELD (R77, R85). -/
theorem decideStage_secure (hs : w.ch.state = .running ∨ w.ch.state = .held) {r : EndReason}
    (hr : w.ch.stopRequest = .secure r) : decideStage e [] w = secureStop e r w := by
  unfold decideStage; dsimp only [List.foldl]
  rcases hs with hs | hs <;> (rw [hs]; dsimp only; rw [if_neg (by simp), hr])

theorem decideStage_hold (hs : w.ch.state = .running) (hr : w.ch.stopRequest = .none) (hh : holds e w.ch = true) :
    decideStage e [] w = { w with ch := enterHeld e w.ch } := by
  unfold decideStage; dsimp only [List.foldl]
  rw [hs]; dsimp only
  rw [if_neg (by simp), hr]; exact if_pos hh

theorem decideStage_run (hs : w.ch.state = .running) (hr : w.ch.stopRequest = .none) (hh : holds e w.ch = false) :
    decideStage e [] w = runWork e w := by
  unfold decideStage; dsimp only [List.foldl]
  rw [hs]; dsimp only
  rw [if_neg (by simp), hr]; exact if_neg (by simp [hh])

theorem decideStage_held (hs : w.ch.state = .held) (hr : w.ch.stopRequest = .none) (hh : e.hold = true) :
    decideStage e [] w = w := by
  unfold decideStage; dsimp only [List.foldl]
  rw [hs]; dsimp only
  rw [if_neg (by simp), hr]; exact if_pos hh

theorem decideStage_release (hs : w.ch.state = .held) (hr : w.ch.stopRequest = .none) (hh : e.hold = false) :
    decideStage e [] w = releaseHold e w := by
  unfold decideStage; dsimp only [List.foldl]
  rw [hs]; dsimp only
  rw [if_neg (by simp), hr]; exact if_neg (by simp [hh])

/-- STOPPING ends at setpoint 0 with the confirmation (R86). -/
theorem decideStage_stopping (hs : w.ch.state = .stopping) (hr : w.ch.stopRequest ≠ .fast) :
    decideStage e [] w = if w.ch.setpoint = 0 ∧ w.ch.confirmed = true then { w with ch := enterOpening w.ch } else w := by
  unfold decideStage; dsimp only [List.foldl]
  rw [hs]; dsimp only
  rw [if_neg (by simp), if_neg hr]

theorem decideStage_opening (hs : w.ch.state = .opening) :
    decideStage e det w = openingWork e (det.foldl (recordFault e) w) := by
  unfold decideStage; dsimp only
  rw [show (det.foldl (recordFault e) w).ch.state = .opening by rw [recordAll_touches]; exact hs]

theorem decideStage_faulted (hs : w.ch.state = .faulted) :
    decideStage e det w = det.foldl (recordFault e) w := by
  unfold decideStage; dsimp only
  rw [show (det.foldl (recordFault e) w).ch.state = .faulted by rw [recordAll_touches]; exact hs]

end

/-! ### No SAMPLE entry before the capture -/

section
variable {e : PeriodEnv} {w w' : Work}

theorem endStep_samples (e : PeriodEnv) (r : StepEndReason) (w : Work) : (endStep e r w).samples = w.samples := by
  rw [endStep_touches]

theorem secureStop_samples (e : PeriodEnv) (r : EndReason) (w : Work) : (secureStop e r w).samples = w.samples :=
  endStep_samples e _ w

theorem recordFault_samples (e : PeriodEnv) (w : Work) (c : Cause) : (recordFault e w c).samples = w.samples := by
  obtain ⟨r, fs, hr⟩ := recordFault_spec e w c
  rw [hr]

theorem StepEnds.samples {i : Nat} {r : StepEndReason} {act : Action} (h : StepEnds e i r act w w') :
    w'.samples = w.samples := by
  cases h with
  | finishes hd => exact secureStop_samples e .complete (cycledWork e i act w)
  | enters j s hd hs => exact endStep_samples e r (cycledWork e i act w)

theorem Sequenced.samples (h : Sequenced e w w') : w'.samples = w.samples := by
  cases h with
  | nothing h => rfl
  | on i s hi hs => rfl
  | operator i s hi hs => exact (finishStep_cases e i .operator .next _).samples
  | term i s pos act hi hs => exact (finishStep_cases e i (termReason pos) act _).samples

theorem runWork_samples (e : PeriodEnv) (w : Work) : (runWork e w).samples = w.samples :=
  (sequence_cases e { w with ch := boundaryCount e w.ch }).samples

theorem Released.samples (h : Released e w w') : w'.samples = w.samples := by
  cases h with
  | restart i s hi hs => exact endStep_samples e .restarted (releasedWork w)
  | freeze => exact runWork_samples e (releasedWork w)
  | nothing => rfl

theorem Started.samples (h : Started e w w') : w'.samples = w.samples := by
  cases h with
  | finishes hd => exact secureStop_samples e .complete w
  | held j s hs hh => rfl
  | runs j s hs hh => rfl

theorem Closing.samples (h : Closing e w w') : w'.samples = w.samples := by
  cases h with
  | secure r hf hr => exact secureStop_samples e r (closedWork e w)
  | start hf => exact (startProgram_cases e (closedWork e w)).samples
  | limit hf => exact recordFault_samples e (waitingWork w) .contactorNoClose
  | waits hf => rfl

theorem Opening.samples (h : Opening e w w') : w'.samples = w.samples := by
  cases h with
  | leaves => rfl
  | limit => exact recordFault_samples e (openTimed w) .contactorStuck
  | waits => rfl

theorem RunTaken.samples (h : RunTaken e w w') : w'.samples = w.samples := by
  cases h with
  | none hr => rfl
  | stop hr hs => rfl
  | fails c hr hs => exact recordFault_samples e (begunWork w) c
  | passes hr hs => rfl

theorem Decision.samples {det : List Cause} (h : Decision e det w w') : w'.samples = w.samples := by
  cases h with
  | rests hs => exact (takeRun_cases e w).samples
  | fast r sr hs h => exact endStep_samples e sr w
  | closing hs hd hr => exact (closingWork_cases e w).samples
  | secure r hs hd hr => exact secureStop_samples e r w
  | hold hs hd hr hh => rfl
  | run hs hd hr hh => exact runWork_samples e w
  | held hs hd hr hh => rfl
  | release hs hd hr hh => exact (releaseHold_cases e w).samples
  | stopped hs hd hr hz => rfl
  | stopping hs hd hr hz => rfl
  | opening hs => exact (openingWork_cases e w).samples
  | faulted hs => rfl

end

section
variable (e : PeriodEnv)

theorem decided_samples (ch : Channel) : (decided e ch).samples = [] := by
  rw [decided, (decideStage_cases e (causesIn e ch) (Work.of (measured e ch))).samples, recordAll_touches]
  rfl

/-! ### The entries of a period -/

/-- The SAMPLE entries of a period are the capture's. -/
theorem worked_samples (ch : Channel) : (worked e ch).samples = sampledIn e (decided e ch) := by
  have hnone := decided_samples e ch
  unfold worked
  generalize decided e ch = w at hnone ⊢
  rw [pulseOutput_touches]
  unfold captureStage sampledIn
  dsimp only
  by_cases h : (w.ch.state = .running ∨ w.ch.state = .stopping) ∧ w.entered = false
  · rw [if_pos h]
    simp only [h, true_and]
    rfl
  · rw [if_neg h, if_neg (fun hx => h ⟨hx.1, hx.2.1⟩)]
    exact hnone

/-- The entries of a period in their order: faults, step ends, run entries, the capture's (R156). -/
theorem channelPeriod_entries (ch : Channel) : (channelPeriod e ch).entries =
    (decided e ch).faults ++ (decided e ch).ends ++ (decided e ch).runs ++ sampledIn e (decided e ch) := by
  have hrest : (worked e ch).faults = (decided e ch).faults ∧ (worked e ch).ends = (decided e ch).ends ∧
      (worked e ch).runs = (decided e ch).runs := by
    rw [worked_touches]; exact ⟨rfl, rfl, rfl⟩
  obtain ⟨hfaults, hends, hruns⟩ := hrest
  rw [← worked_samples, ← hfaults, ← hends, ← hruns]
  simp only [channelPeriod, worked, decided, measured]

end

theorem sampledIn_rests (e : PeriodEnv) {w : Work} (h : ¬ (w.ch.state = .running ∨ w.ch.state = .stopping)) :
    sampledIn e w = [] := if_neg fun hx => h hx.1

theorem sampledIn_entered (e : PeriodEnv) {w : Work} (h : w.entered = true) : sampledIn e w = [] :=
  if_neg fun hx => by rw [h] at hx; exact absurd hx.2.1 (by decide)

theorem sampledIn_off (e : PeriodEnv) {w : Work} (h : w.ch.pacer = Pacer.off) : sampledIn e w = [] :=
  if_neg fun hx => by rw [h] at hx; exact absurd hx.2.2 (by decide)

/-- A pacer captures where its accumulator passes 1023 (R155). -/
theorem pacerWork_captures (p : Pacer) : (pacerWork p).2 = true ↔
    (p.mode = .interval ∧ 1023 < p.acc + 1) ∨ (p.mode = .fraction ∧ 1023 < p.acc + p.d) := by
  unfold pacerWork
  simp only [Config.captureTop]
  cases hm : p.mode
  · simp
  · by_cases h : 1023 < p.acc + 1 <;> simp [h]
  · by_cases h : 1023 < p.acc + p.d <;> simp [h]

/-- The entries of the capture in the words of the statements, for a step that was not entered in the period (R155). -/
theorem sampledIn_eq {s : State} {inp : PeriodInput} {k : Fin 4} {i : Nat} {w : Work}
    (hs : w.ch.state = .running ∨ w.ch.state = .stopping) (he : w.entered = false)
    (hp : w.ch.pacer = (s.channels.get k).pacer) (hi : w.ch.sequencer.index = some i)
    (hb : w.ch.band = some (bandAfter s inp k)) :
    sampledIn (periodEnv s inp k) w = sampleEntries s inp k i := by
  have hband : bandOf k w.ch = bandAfter s inp k := by unfold bandOf; rw [hb]; rfl
  have hwhen : ((w.ch.state = .running ∨ w.ch.state = .stopping) ∧ w.entered = false ∧ (pacerWork w.ch.pacer).2 = true) ↔
      (((s.channels.get k).pacer.mode = .interval ∧ 1023 < (s.channels.get k).pacer.acc + 1) ∨
        ((s.channels.get k).pacer.mode = .fraction ∧
          1023 < (s.channels.get k).pacer.acc + (s.channels.get k).pacer.d)) := by
    rw [hp, pacerWork_captures]
    exact ⟨fun h => h.2.2, fun h => ⟨hs, he, h⟩⟩
  unfold sampledIn sampleEntries
  rw [hi]
  dsimp only
  by_cases hc : ((s.channels.get k).pacer.mode = .interval ∧ 1023 < (s.channels.get k).pacer.acc + 1) ∨
      ((s.channels.get k).pacer.mode = .fraction ∧ 1023 < (s.channels.get k).pacer.acc + (s.channels.get k).pacer.d)
  · rw [if_pos (hwhen.2 hc), if_pos hc]
    show [Entry.sample k (s.tick + 1) i (bandOf k w.ch).val _ _ _] = _
    rw [hband]; rfl
  · rw [if_neg (mt hwhen.1 hc), if_neg hc]

/-! ### The fault record (R94) -/

theorem detected_nodup (e : PeriodEnv) (ch : Channel) : (detected e ch).Nodup ∧ .contactorStuck ∉ detected e ch := by
  have part : ∀ (p : Bool) (c : Cause), (if p = true then [c] else []).Sublist [c] := fun p c => by
    split
    · exact List.Sublist.refl _
    · exact List.nil_sublist _
  have hsub : (detected e ch).Sublist [.estop, .contactorDropped, .converter, .overvoltage, .undervoltage, .overtemp,
      .currentDeviation] := by
    unfold detected
    exact ((((((part _ _).append (part _ _)).append (part _ _)).append (part _ _)).append (part _ _)).append (part _ _)).append
      (part _ _)
  exact ⟨hsub.nodup (by decide), fun hm => absurd (hsub.subset hm) (by decide)⟩

section
variable {e : PeriodEnv} {w : Work}

theorem recordFault_first {c : Cause} (h : w.ch.record = none) : recordFault e w c = { w with
    ch := { w.ch with record := some ⟨c, none, e.tick, w.ch.sequencer.index, e.inp.v, e.inp.i, e.inp.t⟩ }
    faults := w.faults ++ [.fault e.k e.tick c none w.ch.sequencer.index e.inp.v e.inp.i e.inp.t] } := by
  unfold recordFault; rw [h]

theorem recordFault_second {c : Cause} {r : FaultRecord} (h : w.ch.record = some r) (hn : r.secondary = none)
    (hc : c ≠ r.primary) : recordFault e w c = { w with
      ch := { w.ch with record := some { r with secondary := some c } }
      faults := w.faults ++ [.fault e.k e.tick r.primary (some c) r.step r.v r.i r.t] } := by
  unfold recordFault; rw [h]; exact if_pos ⟨hn, hc⟩

theorem recordFault_ignored {c : Cause} {r : FaultRecord} (h : w.ch.record = some r)
    (hn : ¬ (r.secondary = none ∧ c ≠ r.primary)) : recordFault e w c = w := by
  unfold recordFault; rw [h]; exact if_neg hn

/-- With both causes recorded nothing more is. -/
theorem recordAll_full {r : FaultRecord} (h : w.ch.record = some r) (hn : r.secondary ≠ none) (cs : List Cause) :
    cs.foldl (recordFault e) w = w := by
  induction cs with
  | nil => rfl
  | cons c cs ih => rw [List.foldl_cons, recordFault_ignored h (fun hx => hn hx.1), ih]

/-- Beside a primary cause alone the first cause that differs from it is recorded. -/
theorem recordAll_second {r : FaultRecord} (h : w.ch.record = some r) (hn : r.secondary = none) (cs : List Cause) :
    cs.foldl (recordFault e) w = match cs.find? fun c => decide (c ≠ r.primary) with
      | some c => recordFault e w c
      | none => w := by
  induction cs with
  | nil => rfl
  | cons c cs ih =>
    rw [List.foldl_cons]
    by_cases hc : c ≠ r.primary
    · rw [List.find?_cons_of_pos (by simpa using hc)]
      have hsecond := recordFault_second (e := e) h hn hc
      exact recordAll_full (by rw [hsecond]) (by simp) cs
    · rw [recordFault_ignored h (fun hx => hc hx.2), ih, List.find?_cons_of_neg (by simpa using hc)]

end

/-- The causes of a period as they are recorded, in the words of the statements. -/
theorem recordAll_eq {s : State} {inp : PeriodInput} {k : Fin 4} {w : Work} {cs : List Cause} (hn : cs.Nodup)
    (hr : w.ch.record = (s.channels.get k).record) (hi : w.ch.sequencer.index = (s.channels.get k).sequencer.index)
    (hf : w.faults = []) :
    (cs.foldl (recordFault (periodEnv s inp k)) w).ch.record = (faultsRecorded s inp k cs).1 ∧
    (cs.foldl (recordFault (periodEnv s inp k)) w).faults = (faultsRecorded s inp k cs).2 := by
  unfold faultsRecorded
  cases hrec : (s.channels.get k).record with
  | none =>
    rw [hrec] at hr
    cases cs with
    | nil => exact ⟨hr, hf⟩
    | cons c cs =>
      have hfirst := recordFault_first (e := periodEnv s inp k) (c := c) hr
      rw [hf, hi] at hfirst
      rw [List.foldl_cons, hfirst]
      cases cs with
      | nil => exact ⟨rfl, rfl⟩
      | cons c2 cs =>
        have hne : c2 ≠ c := fun hx => by
          rw [List.nodup_cons] at hn
          exact hn.1 (by rw [hx]; exact List.mem_cons_self ..)
        rw [recordAll_second rfl rfl, List.find?_cons_of_pos (by simpa using hne)]
        dsimp only
        rw [recordFault_second rfl rfl hne]
        exact ⟨rfl, rfl⟩
  | some r =>
    rw [hrec] at hr
    by_cases hsec : r.secondary = none
    · rw [recordAll_second hr hsec]
      dsimp only
      cases hfind : cs.find? fun c => decide (c ≠ r.primary) with
      | none => rw [hsec]; exact ⟨hr, hf⟩
      | some c =>
        have hc : c ≠ r.primary := by simpa using List.find?_some hfind
        rw [hsec]
        dsimp only
        rw [recordFault_second hr hsec hc, hf]
        exact ⟨rfl, rfl⟩
    · obtain ⟨c2, hc2⟩ := Option.ne_none_iff_exists'.1 hsec
      rw [recordAll_full hr hsec]
      dsimp only
      rw [hc2]
      exact ⟨hr, hf⟩

end Sys2Proof.Machine
end

section
/-! PROOFS. Causes and stops in a period: the persistence counts, the run request, the fast stops and the contactor limits (R76, R80,
R82, R85 to R94). -/

namespace Sys2Proof.Machine

/-! ### The work before stage 3, and the marks of a period -/

/-- The work of a period before stage 3: the channel measured, nothing done yet. -/
abbrev measuredWork (e : PeriodEnv) (ch : Channel) : Work := Work.of (measured e ch)

section
variable (e : PeriodEnv) (ch : Channel)

theorem decided_of_nil (h : causesIn e ch = []) : decided e ch = decideStage e [] (measuredWork e ch) := by
  unfold decided; rw [h]

theorem period_closeHit : (channelPeriod e ch).marks.closeHit = (decided e ch).closeHit := by
  have hkeep : (worked e ch).closeHit = (decided e ch).closeHit := by rw [worked_touches]
  rw [← hkeep]; simp only [channelPeriod, worked, decided, measured]

theorem period_openHit : (channelPeriod e ch).marks.openHit = (decided e ch).openHit := by
  have hkeep : (worked e ch).openHit = (decided e ch).openHit := by rw [worked_touches]
  rw [← hkeep]; simp only [channelPeriod, worked, decided, measured]

theorem period_persisted : (channelPeriod e ch).marks.persisted =
    ((timedCauses e (measure e ch)).1.2 || (timedCauses e (measure e ch)).2.1.2 ||
      (timedCauses e (measure e ch)).2.2.1.2 || (timedCauses e (measure e ch)).2.2.2.2) := by
  simp only [channelPeriod]

end

/-! ### Persistence counts (R92) -/

theorem persistsAs_of {A C B : Prop} {a c b : Bool} (n top : Nat) (ha : a = true ↔ A) (hc : c = true ↔ C) (hb : b = true ↔ B) :
    PersistsAs n top A C B (if b = true then (persist a c top n).1 else 0) := by
  unfold PersistsAs persist
  rw [← ha, ← hc, ← hb]
  refine ⟨fun ⟨ha, hc, hb⟩ => ?_, fun hn => ?_⟩
  · rw [ha, hc, hb]
    exact ⟨fun hlt => show min (n + 1) top = n + 1 by omega, fun heq => show min (n + 1) top = top by omega⟩
  · split
    · next hb =>
      split
      · next hac =>
        rw [Bool.and_eq_true] at hac
        exact absurd ⟨hac.1, hac.2, hb⟩ hn
      · rfl
    · rfl

/-- The period in which a count reaches its persistence. -/
theorem persist_reaches {armed cond : Bool} {top n : Nat} (ha : armed = true) (hc : cond = true) (hn : n + 1 = top) :
    (persist armed cond top n).1 = top := by
  unfold persist
  rw [ha, hc]
  show min (n + 1) top = top
  omega

theorem outputStages_persistence (e : PeriodEnv) (w : Work) : (outputStages e w).persistence =
    ⟨if armedLimits w.ch.state then w.ch.persistence.overV else 0, if armedLimits w.ch.state then w.ch.persistence.underV else 0,
      if armedLimits w.ch.state then w.ch.persistence.overT else 0,
      if armedClosed w.ch.state then w.ch.persistence.deviation else 0⟩ := by
  unfold outputStages disarm
  rw [driveOutputs_touches, regulate_touches]

/-- The persistence counts after a period: counted by the state of before, cleared by the state after. -/
theorem period_persistence (e : PeriodEnv) (ch : Channel) : (channelPeriod e ch).ch.persistence =
    ⟨if armedLimits (decided e ch).ch.state then (timedCauses e (measure e ch)).1.1 else 0,
      if armedLimits (decided e ch).ch.state then (timedCauses e (measure e ch)).2.1.1 else 0,
      if armedLimits (decided e ch).ch.state then (timedCauses e (measure e ch)).2.2.1.1 else 0,
      if armedClosed (decided e ch).ch.state then (timedCauses e (measure e ch)).2.2.2.1 else 0⟩ := by
  have hcounts : (worked e ch).ch.persistence = (measured e ch).persistence := by
    rw [worked_touches]; exact (decided_kept e ch).persistence
  rw [channelPeriod_ch, outputStages_persistence, hcounts, worked_state]
  rfl

/-! ### A detected cause is recorded -/

theorem fastStop_record (e : PeriodEnv) (r : EndReason) (sr : StepEndReason) (w : Work) :
    (fastStop e r sr w).ch.record = w.ch.record := by
  unfold fastStop enterOpening
  rw [endStep_touches]
  rfl

theorem recordFault_isSome (e : PeriodEnv) (w : Work) (c : Cause) : (recordFault e w c).ch.record.isSome = true := by
  obtain ⟨r, fs, hr⟩ := recordFault_spec e w c
  rw [hr]; rfl

theorem leaveOpening_record (e : PeriodEnv) (w : Work) : (leaveOpening e w).ch.record = w.ch.record := by
  unfold leaveOpening; dsimp only; split <;> rfl

/-- Where a cause is detected there is a record after the period, and the channel is in OPENING or FAULTED (R93, R94). -/
theorem decided_of_causes (e : PeriodEnv) (ch : Channel) (hd : causesIn e ch ≠ []) :
    (decided e ch).ch.record.isSome = true ∧ ((decided e ch).ch.state = .opening ∨ (decided e ch).ch.state = .faulted) := by
  have hsome := recordAll_isSome e (cs := causesIn e ch) (w := measuredWork e ch) (.inl hd)
  have hdecision := decideStage_cases e (causesIn e ch) (measuredWork e ch)
  have hstate : ((causesIn e ch).foldl (recordFault e) (measuredWork e ch)).ch.state = ch.state := by
    rw [recordAll_touches]; rfl
  unfold decided
  generalize (causesIn e ch).foldl (recordFault e) (measuredWork e ch) = w at hsome hdecision hstate
  generalize hw : decideStage e (causesIn e ch) (Work.of (measured e ch)) = w'
  rw [hw] at hdecision
  cases hdecision with
  | rests hs => exact absurd (detected_rests e (c := measure e ch) (by rw [hstate] at hs; exact hs)) hd
  | fast r sr hs h => exact ⟨by rw [fastStop_record]; exact hsome, .inl rfl⟩
  | closing hs hnil hr => exact absurd hnil hd
  | secure r hs hnil hr => exact absurd hnil hd
  | hold hs hnil hr hh => exact absurd hnil hd
  | run hs hnil hr hh => exact absurd hnil hd
  | held hs hnil hr hh => exact absurd hnil hd
  | release hs hnil hr hh => exact absurd hnil hd
  | stopped hs hnil hr hz => exact absurd hnil hd
  | stopping hs hnil hr hz => exact absurd hnil hd
  | opening hs =>
    generalize ho : openingWork e w = w''
    cases ho ▸ openingWork_cases e w with
    | leaves =>
      have hrec : (openTimed w).ch.record.isSome = true := hsome
      exact ⟨by rw [leaveOpening_record]; exact hrec, .inr (by rw [leaveOpening_state, if_pos hrec])⟩
    | limit =>
      have hrec := recordFault_isSome e (openTimed w) .contactorStuck
      refine ⟨?_, .inr ?_⟩
      · show (leaveOpening e _).ch.record.isSome = true
        rw [leaveOpening_record]; exact hrec
      · show (leaveOpening e _).ch.state = _
        rw [leaveOpening_state, if_pos hrec]
    | waits => exact ⟨hsome, .inl hs⟩
  | faulted hs => exact ⟨hsome, .inr hs⟩

/-- A fast stop's channel at the end of the period (R83, R87). -/
theorem period_of_fastStop {e : PeriodEnv} {ch : Channel} {r : EndReason} {sr : StepEndReason} {w : Work}
    (hd : decided e ch = fastStop e r sr w) :
    (channelPeriod e ch).ch.state = .opening ∧ (channelPeriod e ch).ch.endReason = r ∧
    (channelPeriod e ch).ch.stopRequest = .none ∧ (channelPeriod e ch).ch.setpoint = 0 ∧
    (channelPeriod e ch).ch.drive = false ∧ (channelPeriod e ch).ch.enabled = false := by
  have hstate : (decided e ch).ch.state = .opening := by rw [hd]; rfl
  have hrest : regulates (decided e ch).ch.state = false := by rw [hstate]; rfl
  refine ⟨?_, ?_, ?_, period_setpoint_rests e ch hrest, ?_, ?_⟩
  · rw [period_state, hstate]
  · rw [period_endReason, hd]; rfl
  · rw [period_stopRequest, hd]; rfl
  · rw [period_drive, hrest, hstate]; rfl
  · rw [period_enabled, hrest]

/-- A detected cause in a closed state makes a fast stop. -/
theorem decided_of_fault (e : PeriodEnv) (ch : Channel) (hs : armedRun ch.state = true) (hd : causesIn e ch ≠ []) :
    decided e ch = fastStop e .fault (faultStepReason (causesIn e ch))
      ((causesIn e ch).foldl (recordFault e) (measuredWork e ch)) :=
  decideStage_fault (w := measuredWork e ch) hs hd

/-- Settles O6: the timed cause that is detected, and what a period makes of each count. -/
theorem timedCauseIsDetected : Obligations.TimedCauseIsDetected := by
  unfold Obligations.TimedCauseIsDetected
  refine ⟨fun inp s k c h hcause => ?detects, fun inp s k h => ⟨periodState s inp, rfl, ?counts⟩⟩
  case counts =>
    rw [h.channel]
    dsimp only
    rw [period_persistence, period_state]
    exact ⟨persistsAs_of _ 3 (armedLimits_iff _) (overCond_iff _ _) (armedLimits_iff _),
      persistsAs_of _ 3 (armedLimits_iff _) (underCond_iff _ _ _) (armedLimits_iff _),
      persistsAs_of _ 3 (armedLimits_iff _) (tempCond_iff _ _) (armedLimits_iff _),
      persistsAs_of _ 20 (armedClosed_iff _) (deviationCond_iff _ _ _ _) (armedClosed_iff _)⟩
  case detects =>
    have hmem : c ∈ causesOf s inp k := by
      refine (causesDetectedByTheTable inp s k c h).2 ?_
      rcases hcause with ⟨hc, hs, hv, hn⟩ | ⟨hc, hs, hf, hv, hn⟩ | ⟨hc, hs, hv, hn⟩ | ⟨hc, hs, he, hv, hn⟩
      · exact .inr (.inr (.inr (.inl ⟨hc, hs, hv, by omega⟩)))
      · exact .inr (.inr (.inr (.inr (.inl ⟨hc, hs, hf, hv, by omega⟩))))
      · exact .inr (.inr (.inr (.inr (.inr (.inl ⟨hc, hs, hv, by omega⟩)))))
      · exact .inr (.inr (.inr (.inr (.inr (.inr ⟨hc, hs, he, hv, by omega⟩)))))
    have hd : causesIn (periodEnv s inp k) (s.channels.get k) ≠ [] := List.ne_nil_of_mem hmem
    obtain ⟨hrecord, hstate⟩ := decided_of_causes _ _ hd
    have hcame : (periodOf s inp k).marks.persisted = true := by
      rw [period_persisted, Bool.or_eq_true, Bool.or_eq_true, Bool.or_eq_true]
      unfold timedCauses
      simp only [persist_detects, armedLimits_iff, armedClosed_iff]
      rcases hcause with ⟨-, hs, hv, hn⟩ | ⟨-, hs, hf, hv, hn⟩ | ⟨-, hs, hv, hn⟩ | ⟨-, hs, he, hv, hn⟩
      · exact .inl (.inl (.inl ⟨hs, (overCond_iff _ _).2 hv, congrArg (· + 1) hn⟩))
      · exact .inl (.inl (.inr ⟨hs, (underCond_iff _ _ _).2 ⟨hf, hv⟩, congrArg (· + 1) hn⟩))
      · exact .inl (.inr ⟨hs, (tempCond_iff _ _).2 hv, congrArg (· + 1) hn⟩)
      · exact .inr ⟨hs, (deviationCond_iff _ _ _ _).2 ⟨he, hv⟩, congrArg (· + 1) hn⟩
    have harmed : armedLimits (decided (periodEnv s inp k) (s.channels.get k)).ch.state = true := by
      rcases hstate with hs | hs <;> (rw [hs]; rfl)
    refine ⟨periodState s inp, congrArg Host.Outcome.next (periodWhen_true (h.comes_about hcame) inp s), periodFrame s inp, ?_⟩
    rw [h.channel, period_record, period_persistence, harmed]
    refine ⟨hrecord, fun hc => ?_, fun hc => ?_, fun hc => ?_, fun hs => ?_⟩
    · rcases hcause with ⟨-, hs, hv, hn⟩ | ⟨hx, -⟩ | ⟨hx, -⟩ | ⟨hx, -⟩
      · exact persist_reaches ((armedLimits_iff _).2 hs) ((overCond_iff _ _).2 hv) (congrArg (· + 1) hn)
      all_goals rw [hc] at hx; cases hx
    · rcases hcause with ⟨hx, -⟩ | ⟨-, hs, hf, hv, hn⟩ | ⟨hx, -⟩ | ⟨hx, -⟩
      · rw [hc] at hx; cases hx
      · exact persist_reaches ((armedLimits_iff _).2 hs) ((underCond_iff _ _ _).2 ⟨hf, hv⟩) (congrArg (· + 1) hn)
      all_goals rw [hc] at hx; cases hx
    · rcases hcause with ⟨hx, -⟩ | ⟨hx, -⟩ | ⟨-, hs, hv, hn⟩ | ⟨hx, -⟩
      · rw [hc] at hx; cases hx
      · rw [hc] at hx; cases hx
      · exact persist_reaches ((armedLimits_iff _).2 hs) ((tempCond_iff _ _).2 hv) (congrArg (· + 1) hn)
      · rw [hc] at hx; cases hx
    · obtain ⟨hopening, hreason, -, hsetpoint, hdrive, henabled⟩ :=
        period_of_fastStop (decided_of_fault _ _ ((armedRun_iff _).2 hs) hd)
      exact ⟨hopening, hreason, hsetpoint, hdrive, henabled⟩

end Sys2Proof.Machine
end

section
/-! PROOFS. Runs that begin, the contactor limits, and the ends of STOPPING and OPENING (R76, R80, R82, R86 to R90). -/

namespace Sys2Proof.Machine

/-! ### The outputs and the entries by what stage 3 decided -/

section
variable {e : PeriodEnv} {ch : Channel} {s : State} {inp : PeriodInput} {k : Fin 4}

/-- The outputs of a channel that reaches a state without a converter (R83, R99). -/
theorem period_at_rest (hs : regulates (decided e ch).ch.state = false) :
    (channelPeriod e ch).ch.enabled = false ∧ (channelPeriod e ch).ch.setpoint = 0 ∧
    (channelPeriod e ch).ch.drive = decide ((decided e ch).ch.state = .closing) := by
  rw [period_enabled, period_drive, hs, Bool.or_false]
  exact ⟨rfl, period_setpoint_rests e ch hs, rfl⟩

/-- The outputs of a channel that reaches a state with a converter (R83). -/
theorem period_at_work (hs : regulates (decided e ch).ch.state = true) :
    (channelPeriod e ch).ch.drive = true ∧ (channelPeriod e ch).ch.enabled = true := by
  rw [period_enabled, period_drive, hs, Bool.or_true]
  exact ⟨rfl, rfl⟩

/-- The queue of a channel that reaches neither RUNNING nor STOPPING takes no SAMPLE entry. -/
theorem Works.queue_rests (h : Works s k) {w : Work} (hd : decided (periodEnv s inp k) (s.channels.get k) = w)
    {st : ChannelState} (hst : w.ch.state = st) (hs : ¬ (st = .running ∨ st = .stopping)) : (periodState s inp).capture.channels.get k =
      offerAll (s.capture.channels.get k) (w.faults ++ w.ends ++ w.runs) := by
  rw [h.queue, channelPeriod_entries, hd, sampledIn_rests _ (by rw [hst]; exact hs), List.append_nil]

end

/-- Without a cause stage 3 works on the measured channel. -/
theorem decided_of_no_causes {s : State} {inp : PeriodInput} {k : Fin 4} (h : causesOf s inp k = []) :
    decided (periodEnv s inp k) (s.channels.get k) =
      decideStage (periodEnv s inp k) [] (measuredWork (periodEnv s inp k) (s.channels.get k)) := decided_of_nil _ _ h

/-- An IDLE or ENDED channel looks for a run request (R76). -/
theorem decided_of_rest {s : State} {inp : PeriodInput} {k : Fin 4}
    (hs : (s.channels.get k).state = .idle ∨ (s.channels.get k).state = .ended) :
    decided (periodEnv s inp k) (s.channels.get k) =
      takeRun (periodEnv s inp k) (measuredWork (periodEnv s inp k) (s.channels.get k)) := by
  have hnil : causesOf s inp k = [] := detected_rests _ hs
  rw [decided_of_no_causes hnil]
  exact decideStage_rests hs

/-- A channel that fails out of CLOSING with no cause recorded before (R80, R82, R94). -/
theorem failClosing_first {e : PeriodEnv} {w : Work} (c : Cause) (h : w.ch.record = none) : failClosing e c w = { w with
    ch := { w.ch with
      record := some ⟨c, none, e.tick, w.ch.sequencer.index, e.inp.v, e.inp.i, e.inp.t⟩
      state := .faulted, endReason := .fault, stopRequest := .none }
    faults := w.faults ++ [.fault e.k e.tick c none w.ch.sequencer.index e.inp.v e.inp.i e.inp.t] } := by
  unfold failClosing
  rw [recordFault_first h]

/-! ### The run request (R76, R80) -/

section run
variable {s : State} {inp : PeriodInput} {k : Fin 4}

/-- A period that leaves an IDLE or ENDED channel in its state: nothing is driven and nothing offered. -/
theorem Works.stays_at_rest (h : Works s k) (hs : (s.channels.get k).state = .idle ∨ (s.channels.get k).state = .ended)
    {c : Channel} (hc : c.state = (s.channels.get k).state)
    (hd : decided (periodEnv s inp k) (s.channels.get k) = Work.of c) :
    (periodOf s inp k).ch.state = (s.channels.get k).state ∧ (periodOf s inp k).ch.drive = false ∧
    (periodOf s inp k).ch.enabled = false ∧ (periodOf s inp k).ch.setpoint = 0 ∧
    (periodState s inp).capture.channels.get k = s.capture.channels.get k := by
  have hstate : (decided (periodEnv s inp k) (s.channels.get k)).ch.state = (s.channels.get k).state := by rw [hd]; exact hc
  have hrest : regulates (decided (periodEnv s inp k) (s.channels.get k)).ch.state = false := by
    rw [hstate]; rcases hs with hs | hs <;> (rw [hs]; rfl)
  obtain ⟨henabled, hsetpoint, hdrive⟩ := period_at_rest hrest
  refine ⟨by rw [period_state, hstate], ?_, henabled, hsetpoint, ?_⟩
  · rw [hdrive, hstate]; rcases hs with hs | hs <;> (rw [hs]; rfl)
  · rw [h.queue_rests hd hc (by rcases hs with hs | hs <;> simp [hs])]; rfl

/-- A run that fails the pre-close check (R80). -/
theorem Works.fails_run (h : Works s k) (hrec : (s.channels.get k).record = none) {c : Cause}
    (hd : decided (periodEnv s inp k) (s.channels.get k) = failClosing (periodEnv s inp k) c
      (begunWork (measuredWork (periodEnv s inp k) (s.channels.get k)))) :
    (periodOf s inp k).ch.runRequest = false ∧ (periodOf s inp k).ch.enabled = false ∧ (periodOf s inp k).ch.setpoint = 0 ∧
    (periodOf s inp k).ch.state = .faulted ∧ (periodOf s inp k).ch.drive = false ∧
    (periodOf s inp k).ch.endReason = .fault ∧ (periodOf s inp k).ch.record = some (recordOf s inp k c none none) ∧
    (periodState s inp).capture.channels.get k =
      offer (s.capture.channels.get k) (faultEntry s inp k c none) := by
  rw [failClosing_first (w := begunWork (measuredWork (periodEnv s inp k) (s.channels.get k))) c hrec] at hd
  have hstate : (decided (periodEnv s inp k) (s.channels.get k)).ch.state = .faulted := by rw [hd]
  obtain ⟨henabled, hsetpoint, hdrive⟩ := period_at_rest (show regulates (decided _ _).ch.state = false by rw [hstate]; rfl)
  rw [hstate] at hdrive
  rw [h.queue_rests (st := .faulted) hd rfl (by decide), period_state, period_runRequest, period_endReason, period_record, hstate, hd]
  exact ⟨rfl, henabled, hsetpoint, rfl, hdrive, rfl, rfl, rfl⟩

/-- A run that passes the pre-close check (R80). -/
theorem Works.begins_run (h : Works s k)
    (hd : decided (periodEnv s inp k) (s.channels.get k) = { measuredWork (periodEnv s inp k) (s.channels.get k) with
      ch := passPreClose (beginRun (measured (periodEnv s inp k) (s.channels.get k))) }) :
    ((periodOf s inp k).ch.runRequest = false ∧ (periodOf s inp k).ch.enabled = false ∧ (periodOf s inp k).ch.setpoint = 0) ∧
    (periodOf s inp k).ch.state = .closing ∧ (periodOf s inp k).ch.drive = true ∧ (periodOf s inp k).ch.endReason = .none ∧
    (periodOf s inp k).ch.record = (s.channels.get k).record ∧ (periodOf s inp k).ch.closeTimer = 0 ∧
    (periodOf s inp k).ch.chargeIn = 0 ∧ (periodOf s inp k).ch.chargeOut = 0 ∧
    (periodOf s inp k).ch.startMode = (s.channels.get k).holdMode ∧
    (periodOf s inp k).ch.startProgram = (s.channels.get k).runProgram ∧
    (periodOf s inp k).ch.sequencer = ⟨some (s.channels.get k).runProgram, none, false, [], Counters.zero, false, 0⟩ ∧
    (periodOf s inp k).ch.pacer = ⟨.off, 0, 0⟩ ∧
    (periodState s inp).capture.channels.get k = s.capture.channels.get k := by
  have hstate : (decided (periodEnv s inp k) (s.channels.get k)).ch.state = .closing := by rw [hd]; rfl
  obtain ⟨henabled, hsetpoint, hdrive⟩ := period_at_rest (show regulates (decided _ _).ch.state = false by rw [hstate]; rfl)
  rw [hstate] at hdrive
  rw [h.queue_rests (st := .closing) hd rfl (by decide), period_state, period_runRequest, period_endReason, period_record,
    period_closeTimer, period_chargeIn, period_chargeOut, period_startMode, period_startProgram, period_sequencer,
    period_pacer, worked_pacer, hstate, hd]
  exact ⟨⟨rfl, henabled, hsetpoint⟩, rfl, hdrive, rfl, rfl, rfl, rfl, rfl, rfl, rfl, rfl, rfl, rfl⟩

end run

/-- Settles O12: no request, the stop line, the two failures of the pre-close check, and the check that passes. -/
theorem runRequestIsTaken : Obligations.RunRequestIsTaken := by
  unfold Obligations.RunRequestIsTaken
  refine ⟨fun inp s k h hs hr => ⟨periodState s inp, rfl, ?none⟩, fun inp s k h hs hr hrec => ⟨periodState s inp, rfl, ?taken⟩⟩
  all_goals
    have hd := decided_of_rest (inp := inp) hs
    rw [h.channel]
  case none =>
    rw [takeRun_none hr] at hd
    obtain ⟨hstate, hdrive, henabled, hsetpoint, hqueue⟩ :=
      h.stays_at_rest hs (c := measured (periodEnv s inp k) (s.channels.get k)) rfl hd
    rw [hqueue, period_runRequest, period_runProgram, period_stopRequest, period_endReason, period_record, period_sequencer, hd]
    exact ⟨hstate, hr, rfl, rfl, rfl, rfl, rfl, hdrive, henabled, hsetpoint, rfl⟩
  case taken =>
    cases hstop : stopSeen s inp k
    case true =>
      rw [takeRun_stop hr hstop] at hd
      obtain ⟨hstate, hdrive, henabled, hsetpoint, hqueue⟩ :=
        h.stays_at_rest hs (c := { measured (periodEnv s inp k) (s.channels.get k) with runRequest := false }) rfl hd
      exact ⟨by rw [period_runRequest, hd], henabled, hsetpoint, fun _ => ⟨hstate, hdrive,
        by rw [period_record, hd]; exact hrec, hqueue⟩, nofun, nofun, nofun⟩
    case false =>
      cases hf : closedAfter s inp k
      case true =>
        rw [takeRun_closed (e := periodEnv s inp k)
            (w := measuredWork (periodEnv s inp k) (s.channels.get k)) hr hstop hf] at hd
        obtain ⟨hreq, henabled, hsetpoint, hstate, hdrive, hreason, hrecord, hqueue⟩ := h.fails_run hrec hd
        exact ⟨hreq, henabled, hsetpoint, nofun, fun _ _ => ⟨hstate, hdrive, hreason, hrecord, hqueue⟩,
          fun _ hx => absurd hx (by decide), fun _ hx => absurd hx (by decide)⟩
      case false =>
        by_cases hv : (limitsAfter s inp k).vMin ≤ (inp.channels.get k).v.toNat ∧
            (inp.channels.get k).v.toNat ≤ (limitsAfter s inp k).vMax
        · rw [takeRun_passes (e := periodEnv s inp k)
            (w := measuredWork (periodEnv s inp k) (s.channels.get k)) hr hstop hf hv] at hd
          obtain ⟨⟨hreq, henabled, hsetpoint⟩, hstate, hdrive, hreason, hrecord, hmore⟩ := h.begins_run hd
          exact ⟨hreq, henabled, hsetpoint, nofun, fun _ hx => absurd hx (by decide), fun _ _ hx => absurd hv hx,
            fun _ _ _ _ => ⟨hstate, hdrive, hreason, hrecord.trans hrec, hmore⟩⟩
        · rw [takeRun_voltage (e := periodEnv s inp k)
            (w := measuredWork (periodEnv s inp k) (s.channels.get k)) hr hstop hf hv] at hd
          obtain ⟨hreq, henabled, hsetpoint, hstate, hdrive, hreason, hrecord, hqueue⟩ := h.fails_run hrec hd
          exact ⟨hreq, henabled, hsetpoint, nofun, fun _ hx => absurd hx (by decide),
            fun _ _ _ => ⟨hstate, hdrive, hreason, hrecord, hqueue⟩, fun _ _ hmin hmax => absurd ⟨hmin, hmax⟩ hv⟩

end Sys2Proof.Machine
end

section
/-! PROOFS. Faults and posted stops, the contactor limits, and the ends of STOPPING and OPENING (R77, R82, R85 to R94, R156). -/

namespace Sys2Proof.Machine

/-- The measured channel of a period before stage 3. -/
abbrev workOf (s : State) (inp : PeriodInput) (k : Fin 4) : Work := measuredWork (periodEnv s inp k) (s.channels.get k)

/-- The measured channel with the causes of the period recorded. -/
abbrev recordedOf (s : State) (inp : PeriodInput) (k : Fin 4) : Work :=
  (causesOf s inp k).foldl (recordFault (periodEnv s inp k)) (workOf s inp k)

section
variable {s : State} {inp : PeriodInput} {k : Fin 4}

/-- Recording the causes touches the record and the FAULT entries alone, and both are as the statements say. -/
theorem recordedOf_eq (s : State) (inp : PeriodInput) (k : Fin 4) : recordedOf s inp k = { workOf s inp k with
    ch := { measured (periodEnv s inp k) (s.channels.get k) with record := (faultsRecorded s inp k (causesOf s inp k)).1 }
    faults := (faultsRecorded s inp k (causesOf s inp k)).2 } := by
  obtain ⟨hrecord, hfaults⟩ := recordAll_eq (s := s) (inp := inp) (k := k) (w := workOf s inp k) (cs := causesOf s inp k)
    (detected_nodup _ _).1 rfl rfl rfl
  rw [← hrecord, ← hfaults]
  exact recordAll_touches _ _ _

/-! ### The end of a step in its words (R128) -/

theorem endStep_entry {r : StepEndReason} {w : Work} {i : Nat} (hi : w.ch.sequencer.index = some i)
    (he : w.ch.sequencer.ended = false) : (endStep (periodEnv s inp k) r w).ends =
      w.ends ++ [stepEndEntry s k i r w.ch.sequencer.counters w.ch.sequencer.cycles] := by
  rw [endStep_open _ _ _ hi he]; rfl

theorem endStep_no_entry {e : PeriodEnv} {r : StepEndReason} {w : Work}
    (h : w.ch.sequencer.index = none ∨ w.ch.sequencer.ended = true) : (endStep e r w).ends = w.ends := by
  rw [endStep_closed _ _ _ h]

/-- A step that was entered has ended after its end. -/
theorem endStep_has_ended {e : PeriodEnv} {r : StepEndReason} {w : Work} (h : w.ch.sequencer.index ≠ none) :
    (endStep e r w).ch.sequencer.ended = true := (endStep_ended e r w).resolve_left h

/-! ### Fast stops (R87) -/

theorem worked_pairs_rest {e : PeriodEnv} {ch : Channel} (h : (decided e ch).ch.state ≠ .running) :
    (worked e ch).ch.live = (decided e ch).ch.live ∧ (worked e ch).ch.staged = (decided e ch).ch.staged := by
  unfold worked
  rw [pulseOutput_rests e h, captureStage_touches]
  exact ⟨rfl, rfl⟩

/-- A fast stop: the channel opens with nothing driven, and its entries are the faults and the end of the step it ends. -/
theorem Works.stops_fast (h : Works s k) {r : EndReason} {sr : StepEndReason} {w : Work}
    (hd : decided (periodEnv s inp k) (s.channels.get k) = fastStop (periodEnv s inp k) r sr w) :
    ((periodOf s inp k).ch.state = .opening ∧ (periodOf s inp k).ch.endReason = r ∧
      (periodOf s inp k).ch.stopRequest = .none ∧ (periodOf s inp k).ch.setpoint = 0 ∧
      (periodOf s inp k).ch.drive = false ∧ (periodOf s inp k).ch.enabled = false) ∧
    (periodOf s inp k).ch.openTimer = 0 ∧ (periodOf s inp k).ch.sequencer.stack = [] ∧
    (periodOf s inp k).ch.sequencer.nextRequest = false ∧
    (periodOf s inp k).ch.live = LivePair.clear ∧ (periodOf s inp k).ch.staged = StagedPair.clear ∧
    (periodOf s inp k).ch.record = w.ch.record ∧
    (periodState s inp).capture.channels.get k = offerAll (s.capture.channels.get k)
      (w.faults ++ (endStep (periodEnv s inp k) sr w).ends ++ w.runs) := by
  have hstate : (decided (periodEnv s inp k) (s.channels.get k)).ch.state ≠ .running := by rw [hd]; exact nofun
  obtain ⟨hlive, hstaged⟩ := worked_pairs_rest hstate
  have hlists : (endStep (periodEnv s inp k) sr w).faults = w.faults ∧ (endStep (periodEnv s inp k) sr w).runs = w.runs := by
    rw [endStep_touches]; exact ⟨rfl, rfl⟩
  refine ⟨period_of_fastStop hd, ?_⟩
  rw [h.queue_rests (st := .opening) hd rfl (by decide), period_openTimer, period_sequencer, period_live, period_staged,
    period_record, hlive, hstaged, hd, fastStop_record]
  refine ⟨rfl, rfl, rfl, rfl, rfl, rfl, ?_⟩
  show offerAll _ ((endStep _ sr w).faults ++ (endStep _ sr w).ends ++ (endStep _ sr w).runs) = _
  rw [hlists.1, hlists.2]

/-- The step end reason of the causes of a period: ESTOP is the first of the table (R131). -/
theorem faultStepReason_detected {e : PeriodEnv} {ch : Channel} {c : Cause} {rest : List Cause}
    (h : detected e ch = c :: rest) :
    faultStepReason (c :: rest) = if c = .estop then .estop else .fault := by
  have hfirst : .estop ∈ detected e ch → c = .estop := fun hm => by
    have hpart : (if (armedRun ch.state && e.stop) = true then [Cause.estop] else []) = [.estop] := by
      refine if_pos ?_
      by_contra hno
      unfold detected at hm
      rw [if_neg hno] at hm
      simp only [List.mem_append, mem_singleton_if, List.not_mem_nil, false_or] at hm
      simp at hm
    unfold detected at h
    rw [hpart] at h
    dsimp only at h
    simp only [List.append_assoc, List.cons_append, List.nil_append] at h
    injection h with hc
    exact hc.symm
  unfold faultStepReason
  by_cases hc : c = .estop
  · rw [if_pos hc, hc]; rfl
  · rw [if_neg hc, if_neg]
    intro hx
    exact hc (hfirst (by rw [h]; simpa using hx))

/-- Settles O16: the fast stop of a fault with its entries, and the record in OPENING and FAULTED. -/
theorem faultMakesFastStop : Obligations.FaultMakesFastStop := by
  unfold Obligations.FaultMakesFastStop
  refine ⟨fun inp s k c rest h hs hc => ?stops, fun inp s k h hs => ?records⟩
  case stops =>
    have hd := decided_of_fault (periodEnv s inp k) (s.channels.get k) ((armedRun_iff _).2 hs)
      (show causesOf s inp k ≠ [] by rw [hc]; exact List.cons_ne_nil _ _)
    have hreason : faultStepReason (causesIn (periodEnv s inp k) (s.channels.get k)) =
        if c = .estop then .estop else .fault := by
      rw [show causesIn (periodEnv s inp k) (s.channels.get k) = c :: rest from hc]
      exact faultStepReason_detected hc
    rw [hreason, show (causesIn _ _).foldl _ _ = recordedOf s inp k from rfl, recordedOf_eq, hc] at hd
    obtain ⟨⟨hstate, hend, hreq, hset, hdrive, hen⟩, htimer, hstack, -, hlive, hstaged, hrecord, hqueue⟩ := h.stops_fast hd
    refine ⟨periodState s inp, rfl, ?_⟩
    rw [h.channel, hqueue]
    refine ⟨hstate, hend, hreq, hset, hdrive, hen, htimer, hstack, hlive, hstaged, hrecord, fun hnone => ?_,
      fun i hi he => ?_, fun hno => ?_⟩
    · rw [hrecord]
      unfold faultsRecorded
      rw [hnone]
      cases rest <;> rfl
    · rw [endStep_entry (i := i) hi he]; exact congrArg _ (List.append_nil _)
    · rw [endStep_no_entry hno]
      exact congrArg _ ((List.append_nil _).trans (List.append_nil _))
  case records =>
    have hwork : ∃ c : Channel, decided (periodEnv s inp k) (s.channels.get k) =
        { workOf s inp k with ch := c, faults := (faultsRecorded s inp k (causesOf s inp k)).2 } ∧
        c.state = (s.channels.get k).state ∧ c.record = (faultsRecorded s inp k (causesOf s inp k)).1 := by
      rcases hs with hs | ⟨hs, hf, hl⟩
      · refine ⟨_, (decideStage_faulted (w := workOf s inp k) hs).trans (recordedOf_eq s inp k), rfl, rfl⟩
      · have hopening := decideStage_opening (e := periodEnv s inp k) (det := causesOf s inp k) (w := workOf s inp k) hs
        rw [show (causesOf s inp k).foldl _ _ = recordedOf s inp k from rfl, recordedOf_eq, openingWork_waits hf hl] at hopening
        exact ⟨_, hopening, rfl, rfl⟩
    obtain ⟨c, hd, hstate, hrecord⟩ := hwork
    refine ⟨periodState s inp, rfl, ?_⟩
    rw [h.channel, period_state, period_record, h.queue_rests (st := (s.channels.get k).state) hd hstate
      (by rcases hs with hs | ⟨hs, -⟩ <;> simp [hs]), hd]
    refine ⟨hstate, hrecord, ?_⟩
    show offerAll _ (_ ++ [] ++ []) = _
    rw [List.append_nil, List.append_nil]

end

end Sys2Proof.Machine
end

section
/-! PROOFS. Posted stops, the contactor limits, and the ends of STOPPING and OPENING (R77, R82, R85 to R90, R156). -/

namespace Sys2Proof.Machine

/-! ### Secure stops (R85) -/

/-- The step end reason of a secure stop (R131). -/
abbrev secureReason (r : EndReason) : StepEndReason := if r = .complete then .complete else .aborted

theorem secureStop_touches (e : PeriodEnv) (r : EndReason) (w : Work) : secureStop e r w = { w with
    ch := { w.ch with
      state := .stopping, endReason := r, stopRequest := .none, confirmed := true, live := LivePair.clear
      staged := StagedPair.clear
      sequencer := { w.ch.sequencer with
        ended := (endStep e (secureReason r) w).ch.sequencer.ended, nextRequest := false } }
    ends := (endStep e (secureReason r) w).ends } := by
  unfold secureStop clearPairs
  dsimp only
  rw [endStep_touches]

section
variable {s : State} {inp : PeriodInput} {k : Fin 4}

/-- A secure stop of a channel whose step was not entered in the period: the entries are those made before, the end of the step and
the capture's. -/
theorem Works.stops_secure (h : Works s k) {r : EndReason} {w : Work}
    (hd : decided (periodEnv s inp k) (s.channels.get k) = secureStop (periodEnv s inp k) r w) :
    ((periodOf s inp k).ch.state = .stopping ∧ (periodOf s inp k).ch.endReason = r ∧
      (periodOf s inp k).ch.stopRequest = .none ∧ (periodOf s inp k).ch.confirmed = true ∧
      (periodOf s inp k).ch.drive = true ∧ (periodOf s inp k).ch.enabled = true ∧
      (periodOf s inp k).ch.live = LivePair.clear ∧ (periodOf s inp k).ch.staged = StagedPair.clear) ∧
    (periodOf s inp k).ch.sequencer = { w.ch.sequencer with
      ended := (endStep (periodEnv s inp k) (secureReason r) w).ch.sequencer.ended, nextRequest := false } ∧
    (periodState s inp).capture.channels.get k = offerAll (s.capture.channels.get k)
      (w.faults ++ (endStep (periodEnv s inp k) (secureReason r) w).ends ++ w.runs ++
        sampledIn (periodEnv s inp k) (secureStop (periodEnv s inp k) r w)) := by
  have hwork : regulates (decided (periodEnv s inp k) (s.channels.get k)).ch.state = true := by rw [hd]; rfl
  obtain ⟨hdrive, henabled⟩ := period_at_work hwork
  obtain ⟨hlive, hstaged⟩ := worked_pairs_rest (e := periodEnv s inp k) (ch := s.channels.get k) (by rw [hd]; exact nofun)
  rw [h.queue, channelPeriod_entries, period_state, period_endReason, period_stopRequest, period_confirmed,
    period_sequencer, period_live, period_staged, hlive, hstaged, hd]
  refine ⟨⟨rfl, rfl, rfl, rfl, hdrive, henabled, rfl, rfl⟩, ?_, ?_⟩
  · rw [secureStop_touches]
  · rw [show (secureStop (periodEnv s inp k) r w).faults = w.faults by rw [secureStop_touches],
      show (secureStop (periodEnv s inp k) r w).runs = w.runs by rw [secureStop_touches]]
    rfl

/-- The capture of a channel that stops securely goes on with its step's index and its pacer (R155). -/
theorem sampledIn_secureStop {r : EndReason} {w : Work} {i : Nat} (he : w.entered = false)
    (hp : w.ch.pacer = (s.channels.get k).pacer) (hi : w.ch.sequencer.index = some i)
    (hb : w.ch.band = some (bandAfter s inp k)) :
    sampledIn (periodEnv s inp k) (secureStop (periodEnv s inp k) r w) = sampleEntries s inp k i := by
  rw [secureStop_touches]
  exact sampledIn_eq (.inr rfl) he hp hi hb

end

/-- Settles O14: a SECURE stop from RUNNING and HELD, a FAST stop from every closed state. -/
theorem postedStopsAreTaken : Obligations.PostedStopsAreTaken := by
  unfold Obligations.PostedStopsAreTaken
  refine ⟨fun inp s k r h hs hc hr => ⟨periodState s inp, rfl, ?secure⟩, fun inp s k h hs hc hr => ⟨periodState s inp, rfl, ?fast⟩⟩
  case secure =>
    have hd := (decided_of_no_causes hc).trans (decideStage_secure (w := workOf s inp k) hs hr)
    obtain ⟨⟨hstate, hreason, hreq, hconf, hdrive, hen, hlive, hstaged⟩, hseq, hqueue⟩ := h.stops_secure hd
    rw [h.channel, hseq, hqueue]
    refine ⟨hstate, hreason, hreq, hconf, rfl, fun hi => endStep_has_ended (w := workOf s inp k) hi, hlive, hstaged,
      hdrive, hen, fun i hcause hi he => ?_⟩
    have habort : secureReason r = .aborted := by rcases hcause with rfl | rfl <;> rfl
    rw [sampledIn_secureStop (i := i) rfl rfl hi rfl, habort, endStep_entry (w := workOf s inp k) hi he]
    rfl
  case fast =>
    have hd := (decided_of_no_causes hc).trans (decideStage_fast (w := workOf s inp k) ((armedRun_iff _).2 hs) hr)
    obtain ⟨⟨hstate, hreason, hreq, hset, hdrive, hen⟩, htimer, hstack, hnext, hlive, hstaged, -, hqueue⟩ := h.stops_fast hd
    rw [h.channel, hqueue]
    refine ⟨hstate, hreason, hreq, hset, hdrive, hen, htimer, hstack, hnext, hlive, hstaged, fun i hi he => ?_, fun hno => ?_⟩
    · rw [endStep_entry (w := workOf s inp k) hi he]; rfl
    · rw [endStep_no_entry (w := workOf s inp k) hno]; rfl

/-! ### OPENING (R88, R89) -/

section
variable {s : State} {inp : PeriodInput} {k : Fin 4}

theorem recordFault_openTimed (e : PeriodEnv) (w : Work) (c : Cause) :
    recordFault e (openTimed w) c = openTimed (recordFault e w c) := by
  cases hr : w.ch.record with
  | none => rw [recordFault_first hr, recordFault_first (w := openTimed w) hr]; rfl
  | some r =>
    by_cases hc : r.secondary = none ∧ c ≠ r.primary
    · rw [recordFault_second hr hc.1 hc.2, recordFault_second (w := openTimed w) hr hc.1 hc.2]; rfl
    · rw [recordFault_ignored hr hc, recordFault_ignored (w := openTimed w) hr hc]

/-- The end of OPENING, its run entry aside. -/
theorem leaveOpening_touches (e : PeriodEnv) (w : Work) : leaveOpening e w = { w with
    ch := { w.ch with state := (leaveOpening e w).ch.state, endReason := (leaveOpening e w).ch.endReason }
    runs := w.runs ++ [endEntry e (leaveOpening e w).ch] } := by
  unfold leaveOpening; dsimp only
  split <;> rfl

theorem leaveOpening_endReason (e : PeriodEnv) (w : Work) :
    (leaveOpening e w).ch.endReason = if w.ch.record.isSome = true then .fault else w.ch.endReason := by
  unfold leaveOpening; dsimp only
  split <;> rfl

/-- The work of an OPENING period with the causes `cs` recorded. -/
def openedWork (s : State) (inp : PeriodInput) (k : Fin 4) (cs : List Cause) : Work := { workOf s inp k with
  ch := { measured (periodEnv s inp k) (s.channels.get k) with
    openTimer := (s.channels.get k).openTimer + 1, record := (faultsRecorded s inp k cs).1 }
  faults := (faultsRecorded s inp k cs).2 }

/-- OPENING that ends: the record, the state by it, and the CHANNEL_END entry after the FAULT entries (R88 to R90). -/
theorem Works.leaves_opening (h : Works s k) (hs : (s.channels.get k).state = .opening) {cs : List Cause} {b : Bool}
    (hd : decided (periodEnv s inp k) (s.channels.get k) =
      { leaveOpening (periodEnv s inp k) (openedWork s inp k cs) with openHit := b }) :
    (periodOf s inp k).ch.record = (faultsRecorded s inp k cs).1 ∧
    (periodOf s inp k).ch.state = (if (faultsRecorded s inp k cs).1.isSome = true then .faulted else .ended) ∧
    (periodOf s inp k).ch.endReason =
      (if (faultsRecorded s inp k cs).1.isSome = true then .fault else (s.channels.get k).endReason) ∧
    (periodOf s inp k).ch.drive = false ∧ (periodOf s inp k).ch.enabled = false ∧ (periodOf s inp k).ch.setpoint = 0 ∧
    (periodState s inp).capture.channels.get k = offerAll (s.capture.channels.get k)
      ((faultsRecorded s inp k cs).2 ++ [channelEndEntry s inp k (periodOf s inp k).ch.endReason]) := by
  have hstate : (decided (periodEnv s inp k) (s.channels.get k)).ch.state =
      if (faultsRecorded s inp k cs).1.isSome = true then .faulted else .ended := by
    rw [hd]; exact leaveOpening_state (periodEnv s inp k) (openedWork s inp k cs)
  have hrest : regulates (decided (periodEnv s inp k) (s.channels.get k)).ch.state = false := by
    rw [hstate]; split <;> rfl
  obtain ⟨henabled, hsetpoint, hdrive⟩ := period_at_rest hrest
  have hopen : (channelPeriod (periodEnv s inp k) (s.channels.get k)).ch.drive = false := by
    rw [hdrive, hstate]; split <;> rfl
  have hreason : (decided (periodEnv s inp k) (s.channels.get k)).ch.endReason =
      if (faultsRecorded s inp k cs).1.isSome = true then .fault else (s.channels.get k).endReason := by
    rw [hd]; exact leaveOpening_endReason (periodEnv s inp k) (openedWork s inp k cs)
  have hcounts : runCounts (s.channels.get k).state = true := by rw [hs]; rfl
  refine ⟨?_, by rw [period_state, hstate], by rw [period_endReason, hreason], hopen, henabled, hsetpoint, ?_⟩
  · rw [period_record, hd]; exact leaveOpening_record (periodEnv s inp k) (openedWork s inp k cs)
  · rw [h.queue_rests hd (st := if (faultsRecorded s inp k cs).1.isSome = true then .faulted else .ended)
      (leaveOpening_state (periodEnv s inp k) (openedWork s inp k cs)) (by split <;> decide), period_endReason, hd]
    generalize hr : (leaveOpening (periodEnv s inp k) (openedWork s inp k cs)).ch.endReason = r
    have hentry : endEntry (periodEnv s inp k) (leaveOpening (periodEnv s inp k) (openedWork s inp k cs)).ch =
        channelEndEntry s inp k r := by
      rw [← hr, leaveOpening_touches]
      show Entry.channelEnd _ _ _ _
        (chargeMah (if runCounts (s.channels.get k).state then _ else _))
        (chargeMah (if runCounts (s.channels.get k).state then _ else _)) = _
      rw [hcounts]; rfl
    rw [leaveOpening_touches, hentry]
    show offerAll _ ((faultsRecorded s inp k cs).2 ++ [] ++ ([] ++ [_])) = _
    rw [List.append_nil, List.nil_append]

theorem decided_opening (hs : (s.channels.get k).state = .opening) :
    decided (periodEnv s inp k) (s.channels.get k) = openingWork (periodEnv s inp k) (recordedOf s inp k) :=
  decideStage_opening (w := workOf s inp k) hs

/-- OPENING ends by an open feedback (R88). -/
theorem decided_opening_open (hs : (s.channels.get k).state = .opening) (hf : closedAfter s inp k = false) :
    decided (periodEnv s inp k) (s.channels.get k) =
      { leaveOpening (periodEnv s inp k) (openedWork s inp k (causesOf s inp k)) with openHit := false } := by
  rw [decided_opening hs, recordedOf_eq, openingWork_open hf]
  rfl

/-- OPENING ends at its limit: CONTACTOR_STUCK is recorded after the causes of the period (R89). -/
theorem decided_opening_limit (hs : (s.channels.get k).state = .opening) (hf : closedAfter s inp k = true)
    (hl : (s.loader.settings.channels.get k).openLimit ≤ (s.channels.get k).openTimer + 1) :
    decided (periodEnv s inp k) (s.channels.get k) = { leaveOpening (periodEnv s inp k)
      (openedWork s inp k (causesOf s inp k ++ [Cause.contactorStuck])) with openHit := true } := by
  obtain ⟨hnodup, hnot⟩ := detected_nodup (periodEnv s inp k) (measure (periodEnv s inp k) (s.channels.get k))
  have hall : (causesOf s inp k ++ [Cause.contactorStuck]).Nodup :=
    List.Nodup.append hnodup (List.nodup_singleton _) (by simpa using hnot)
  obtain ⟨hrecord, hfaults⟩ := recordAll_eq (s := s) (inp := inp) (k := k) (w := workOf s inp k) hall rfl rfl rfl
  have hwork : recordFault (periodEnv s inp k) (openTimed (recordedOf s inp k)) .contactorStuck =
      openedWork s inp k (causesOf s inp k ++ [Cause.contactorStuck]) := by
    rw [recordFault_openTimed]
    unfold openedWork
    rw [← hrecord, ← hfaults]
    have htouches := recordAll_touches (periodEnv s inp k) (causesOf s inp k ++ [Cause.contactorStuck]) (workOf s inp k)
    have hfold : (causesOf s inp k ++ [Cause.contactorStuck]).foldl (recordFault (periodEnv s inp k)) (workOf s inp k) =
        recordFault (periodEnv s inp k) (recordedOf s inp k) .contactorStuck := by
      rw [List.foldl_append]; rfl
    rw [hfold] at htouches ⊢
    rw [htouches]; rfl
  have hf' : (recordedOf s inp k).ch.feedback.level = true := by rw [recordedOf_eq]; exact hf
  have hl' : (periodEnv s inp k).set.openLimit ≤ (recordedOf s inp k).ch.openTimer + 1 := by rw [recordedOf_eq]; exact hl
  rw [decided_opening hs, openingWork_limit hf' hl', hwork]

/-- OPENING waits below its limit (R88). -/
theorem decided_opening_waits (hs : (s.channels.get k).state = .opening) (hf : closedAfter s inp k = true)
    (hl : (s.channels.get k).openTimer + 1 < (s.loader.settings.channels.get k).openLimit) (hc : causesOf s inp k = []) :
    decided (periodEnv s inp k) (s.channels.get k) = openTimed (workOf s inp k) := by
  have hnone : recordedOf s inp k = workOf s inp k := by unfold recordedOf; rw [hc]; rfl
  rw [decided_opening hs, hnone]
  exact openingWork_waits hf hl

end

/-- Settles O18: STOPPING by setpoint and confirmation, OPENING by its feedback. -/
theorem stoppingAndOpeningEnd : Obligations.StoppingAndOpeningEnd := by
  unfold Obligations.StoppingAndOpeningEnd
  refine ⟨fun inp s k h hs hr hc => ⟨periodState s inp, rfl, ?stopping⟩, fun inp s k h hs hf => ⟨periodState s inp, rfl, ?ends⟩,
    fun inp s k h hs hc hf hl => ⟨periodState s inp, rfl, ?waits⟩⟩
  case stopping =>
    have hd := (decided_of_no_causes hc).trans (decideStage_stopping (w := workOf s inp k) hs hr)
    rw [h.channel]
    by_cases hz : (s.channels.get k).setpoint = 0 ∧ (s.channels.get k).confirmed = true
    · rw [if_pos (show (workOf s inp k).ch.setpoint = 0 ∧ (workOf s inp k).ch.confirmed = true from hz)] at hd
      obtain ⟨henabled, -, hdrive⟩ := period_at_rest (e := periodEnv s inp k) (ch := s.channels.get k) (by rw [hd]; rfl)
      rw [hd] at hdrive
      rw [period_endReason, period_state, period_openTimer, period_stopRequest,
        h.queue_rests (st := .opening) hd rfl (by decide), hd]
      exact ⟨rfl, fun _ => ⟨rfl, rfl, hdrive, henabled, rfl, rfl⟩, fun hn => absurd hz hn⟩
    · rw [if_neg (show ¬ ((workOf s inp k).ch.setpoint = 0 ∧ (workOf s inp k).ch.confirmed = true) from hz)] at hd
      have hstate : (decided (periodEnv s inp k) (s.channels.get k)).ch.state = .stopping := by rw [hd]; exact hs
      obtain ⟨hdrive, henabled⟩ := period_at_work (e := periodEnv s inp k) (ch := s.channels.get k) (by rw [hstate]; rfl)
      rw [h.queue, channelPeriod_entries, period_endReason, period_state, hstate, hd]
      refine ⟨rfl, fun hx => absurd hx hz, fun _ => ⟨rfl, hdrive, henabled, fun i hi => ?_⟩⟩
      rw [sampledIn_eq (s := s) (inp := inp) (k := k) (.inr hs) rfl rfl hi rfl]
      rfl
  case ends =>
    have hmore := h.leaves_opening hs (decided_opening_open hs hf)
    obtain ⟨hrecord, hstate, hreason, -, -, -, hqueue⟩ := hmore
    rw [h.channel, hqueue]
    refine ⟨hrecord, fun hnone => ?_, fun hsome => ?_, rfl⟩
    · rw [hstate, hreason, hnone]; exact ⟨rfl, rfl⟩
    · rw [hstate, hreason, if_pos (Option.isSome_iff_ne_none.2 hsome), if_pos (Option.isSome_iff_ne_none.2 hsome)]
      exact ⟨rfl, rfl⟩
  case waits =>
    have hd := decided_opening_waits hs hf hl hc
    rw [h.channel, period_state, period_openTimer, h.queue_rests (st := .opening) hd hs (by decide), hd]
    exact ⟨hs, rfl, rfl⟩

/-! ### The contactor limits (R82, R89) -/

/-- CLOSING that goes on without a cause or a FAST stop (R81). -/
theorem decided_closing {s : State} {inp : PeriodInput} {k : Fin 4} (hs : (s.channels.get k).state = .closing)
    (hr : (s.channels.get k).stopRequest ≠ .fast) (hc : causesOf s inp k = []) :
    decided (periodEnv s inp k) (s.channels.get k) = closingWork (periodEnv s inp k) (workOf s inp k) :=
  (decided_of_no_causes hc).trans (decideStage_closing (w := workOf s inp k) hs hr)

/-- Settles O7: the close limit, CLOSING below it, and the open limit. -/
theorem contactorLimitsFault : Obligations.ContactorLimitsFault := by
  unfold Obligations.ContactorLimitsFault
  refine ⟨fun inp s k h hs hr hrec hc hf hl => ?close, fun inp s k h hs hr hc hf hl => ⟨periodState s inp, rfl, ?waits⟩,
    fun inp s k h hs hf hl => ?opening⟩
  case close =>
    have hd := (decided_closing hs hr hc).trans (closingWork_limit (e := periodEnv s inp k) (w := workOf s inp k) hf hl)
    rw [failClosing_first (w := waitingWork (workOf s inp k)) .contactorNoClose hrec] at hd
    have hcame : (periodOf s inp k).marks.closeHit = true := by rw [period_closeHit, hd]
    obtain ⟨henabled, hsetpoint, hdrive⟩ := period_at_rest (e := periodEnv s inp k) (ch := s.channels.get k) (by rw [hd]; rfl)
    rw [hd] at hdrive
    refine ⟨periodState s inp, congrArg Host.Outcome.next (periodWhen_true (h.comes_about hcame) inp s), periodFrame s inp, ?_⟩
    rw [h.channel, h.queue_rests (st := .faulted) hd rfl (by decide), period_state, period_endReason, period_stopRequest,
      period_record, hd]
    exact ⟨rfl, rfl, hdrive, henabled, hsetpoint, rfl, rfl, rfl⟩
  case waits =>
    have hd := (decided_closing hs hr hc).trans (closingWork_waits (e := periodEnv s inp k) (w := workOf s inp k) hf hl)
    have hstate : (decided (periodEnv s inp k) (s.channels.get k)).ch.state = .closing := by rw [hd]; exact hs
    obtain ⟨henabled, hsetpoint, hdrive⟩ := period_at_rest (e := periodEnv s inp k) (ch := s.channels.get k)
      (by rw [hstate]; rfl)
    rw [hstate] at hdrive
    rw [h.channel, h.queue_rests (st := .closing) hd hs (by decide), period_state, period_closeTimer, period_lastClose,
      period_stopRequest, period_endReason, period_record, period_sequencer, hstate, hd]
    exact ⟨rfl, rfl, rfl, rfl, rfl, rfl, rfl, hdrive, henabled, hsetpoint, rfl⟩
  case opening =>
    have hd := decided_opening_limit hs hf hl
    have hcame : (periodOf s inp k).marks.openHit = true := by rw [period_openHit, hd]
    obtain ⟨hrecord, hstate, hreason, hdrive, henabled, hsetpoint, hqueue⟩ := h.leaves_opening hs hd
    have hsome : (faultsRecorded s inp k (causesOf s inp k ++ [Cause.contactorStuck])).1.isSome = true := by
      unfold faultsRecorded
      cases hrec : (s.channels.get k).record with
      | none =>
        cases hall : causesOf s inp k ++ [Cause.contactorStuck] with
        | nil => exact absurd hall (by simp)
        | cons c cs => cases cs <;> rfl
      | some r => dsimp only; split <;> rfl
    rw [if_pos hsome] at hstate hreason
    refine ⟨periodState s inp, congrArg Host.Outcome.next (periodWhen_true (h.comes_about hcame) inp s), periodFrame s inp, ?_⟩
    rw [h.channel, hqueue, hstate, hrecord, hreason]
    refine ⟨rfl, rfl, hdrive, henabled, hsetpoint, rfl, fun hnone hc => ?_, fun r hr hsec hne hc => ?_, fun r hr hwhy => ?_, rfl⟩
    · unfold faultsRecorded; rw [hc, hnone]; rfl
    · unfold faultsRecorded
      rw [hc, hr]
      dsimp only [List.nil_append]
      rw [hsec, List.find?_cons_of_pos (by simpa using hne.symm)]
    · unfold faultsRecorded
      rw [hr]
      dsimp only
      rcases hwhy with hsec | ⟨hp, hc⟩
      · obtain ⟨c, hc⟩ := Option.ne_none_iff_exists'.1 hsec
        rw [hc]
      · rw [hc, List.nil_append, List.find?_cons_of_neg (by simpa using hp.symm)]
        cases r.secondary <;> rfl

end Sys2Proof.Machine
end

section
/-! PROOFS. A counted period of a step that goes on: its counters, its terms and its capture; the run totals (R90, R119 to R122, R135,
R136, R155). -/

namespace Sys2Proof.Machine

/-! ### The work that the sequencer counts -/

theorem setState_self {c : Channel} {st : ChannelState} (h : c.state = st) : { c with state := st } = c := by
  rw [← h]

/-- The channel that the sequencer counts: RUNNING, with the frame that ends at its boundary counted (R136). -/
def countingWork (s : State) (inp : PeriodInput) (k : Fin 4) : Work := { workOf s inp k with
  ch := boundaryCount (periodEnv s inp k) { measured (periodEnv s inp k) (s.channels.get k) with state := .running } }

section
variable {s : State} {inp : PeriodInput} {k : Fin 4}

theorem holds_iff : holds (periodEnv s inp k) (s.channels.get k) = true ↔ HoldSeen s k := by
  unfold holds
  rw [Bool.and_eq_true, decide_eq_true_iff]
  exact Iff.rfl

/-- A period that works the step on is counted by the sequencer (R84, R119). -/
theorem RunsOn.decided (h : RunsOn s inp k) :
    Machine.decided (periodEnv s inp k) (s.channels.get k) = sequence (periodEnv s inp k) (countingWork s inp k) := by
  obtain ⟨-, hr, hc, ⟨hs, hhold⟩ | ⟨hs, hhold, hm⟩⟩ := h
  · have hnot : holds (periodEnv s inp k) (workOf s inp k).ch = false := Bool.eq_false_iff.2 (mt holds_iff.1 hhold)
    rw [decided_of_no_causes hc, decideStage_run (w := workOf s inp k) hs hr hnot]
    unfold countingWork
    rw [setState_self (c := measured (periodEnv s inp k) (s.channels.get k)) hs]
    rfl
  · have hfreeze : (workOf s inp k).ch.holdMode ≠ .restart := by
      show (s.channels.get k).holdMode ≠ _
      rw [hm]; decide
    rw [decided_of_no_causes hc, decideStage_release (w := workOf s inp k) hs hr hhold, releaseHold_freeze hfreeze]
    rfl

/-- What the boundary count leaves of the channel that is counted. -/
theorem countingWork_ch : (countingWork s inp k).ch = { measured (periodEnv s inp k) (s.channels.get k) with
    state := .running
    sequencer := { (s.channels.get k).sequencer with
      counters := { (s.channels.get k).sequencer.counters with
        pulses := (countingWork s inp k).ch.sequencer.counters.pulses } } } :=
  boundaryCount_touches _ _

theorem boundaryCount_pulses (e : PeriodEnv) (ch : Channel) : (boundaryCount e ch).sequencer.counters.pulses =
    if e.pos = 0 ∧ ch.live.active = true ∧ ch.staged.valid = false then satInc ch.sequencer.counters.pulses Config.max16
    else ch.sequencer.counters.pulses := by
  unfold boundaryCount; split <;> rfl

theorem countingWork_pulses : (countingWork s inp k).ch.sequencer.counters.pulses = (countedAfter s inp k).pulses :=
  boundaryCount_pulses (periodEnv s inp k) { measured (periodEnv s inp k) (s.channels.get k) with state := .running }

/-- The counters of the period in the words of the statements (R120). -/
theorem countingWork_counted :
    countPeriod (periodEnv s inp k) (countingWork s inp k).ch.sequencer.counters = countedAfter s inp k := by
  have hpulses := countingWork_pulses (s := s) (inp := inp) (k := k)
  rw [countingWork_ch, hpulses]
  rfl

theorem countingWork_step : currentStep (periodEnv s inp k).programs (countingWork s inp k).ch = stepNow s k := by
  rw [countingWork_ch]; rfl

/-! ### Terms (R121, R122) -/

theorem persistent_iff (q : Quantity) : persistent q = true ↔ Lasting q := by
  cases q <;> simp [persistent, Lasting]

theorem termHolds_iff (t : Term) : termHolds (periodEnv s inp k) (countedAfter s inp k) t = true ↔ TermTrue s inp k t := by
  have hcmp : ∀ x : Int, (if t.ge = true then decide (t.threshold ≤ x) else decide (x ≤ t.threshold)) = true ↔
      (t.ge = true → t.threshold ≤ x) ∧ (t.ge = false → x ≤ t.threshold) := fun x => by
    cases t.ge <;> simp
  unfold termHolds TermTrue termValue
  cases t.quantity <;> exact hcmp _

theorem termCount_lasting {t : Term} {j n : Nat} (hl : Lasting t.quantity)
    (hn : (s.channels.get k).sequencer.counters.terms[j]? = some n) :
    termCount (periodEnv s inp k) (countedAfter s inp k) (s.channels.get k).regulator.limitedFlag t n =
      termCountAfter s inp k j t := by
  unfold termCount termCountAfter
  rw [if_pos ((persistent_iff _).2 hl), hn]
  split
  · rfl
  · by_cases ht : TermTrue s inp k t
    · rw [if_pos ht, if_pos ((termHolds_iff t).2 ht)]; rfl
    · rw [if_neg ht, if_neg (mt (termHolds_iff t).1 ht)]

theorem termCount_other {e : PeriodEnv} {c : Counters} {flag : Bool} {t : Term} {n : Nat} (hl : ¬ Lasting t.quantity) :
    termCount e c flag t n = n := if_neg (mt (persistent_iff _).1 hl)

theorem termSatisfied_iff {t : Term} {j n : Nat} (hn : (s.channels.get k).sequencer.counters.terms[j]? = some n) :
    termSatisfied (periodEnv s inp k) (countedAfter s inp k) t
      (termCount (periodEnv s inp k) (countedAfter s inp k) (s.channels.get k).regulator.limitedFlag t n) = true ↔
    TermMet s inp k j t := by
  unfold termSatisfied TermMet
  by_cases hl : Lasting t.quantity
  · rw [if_pos ((persistent_iff _).2 hl), termCount_lasting hl hn, decide_eq_true_iff]
    exact ⟨fun h => .inl ⟨hl, h⟩, fun h => h.elim And.right fun hx => absurd hl hx.1⟩
  · rw [if_neg (mt (persistent_iff _).1 hl), termHolds_iff]
    exact ⟨fun h => .inr ⟨hl, h⟩, fun h => h.elim (fun hx => absurd hx.1 hl) And.right⟩

/-- The persistence counts of the period. -/
abbrev countsAfter (s : State) (inp : PeriodInput) (k : Fin 4) (st : Step) : List Nat :=
  termCounts (periodEnv s inp k) (countedAfter s inp k) (s.channels.get k).regulator.limitedFlag st.terms
    (s.channels.get k).sequencer.counters.terms

theorem countedSequencer_eq (st : Step) : countedSequencer (periodEnv s inp k) (countingWork s inp k).ch st =
    { (s.channels.get k).sequencer with counters := { countedAfter s inp k with terms := countsAfter s inp k st } } := by
  unfold countedSequencer
  rw [countingWork_counted, countingWork_ch]
  rfl

theorem satisfiedIn_eq (st : Step) : satisfiedIn (periodEnv s inp k) (countingWork s inp k).ch st =
    firstSatisfied (periodEnv s inp k) (countedAfter s inp k) 1 st.terms (countsAfter s inp k st) := by
  unfold satisfiedIn
  rw [countedSequencer_eq, countingWork_counted]

/-- The count at a place with a term comes from the count of before. -/
theorem countsAfter_at {st : Step} {j : Nat} {t : Term} {m : Nat} (ht : st.terms[j]? = some t)
    (hm : (countsAfter s inp k st)[j]? = some m) : ∃ n, (s.channels.get k).sequencer.counters.terms[j]? = some n ∧
      m = termCount (periodEnv s inp k) (countedAfter s inp k) (s.channels.get k).regulator.limitedFlag t n := by
  have hlen : j < (s.channels.get k).sequencer.counters.terms.length := by
    have := (List.getElem?_eq_some_iff.1 hm).1
    rwa [termCounts_length] at this
  refine ⟨_, List.getElem?_eq_getElem hlen, ?_⟩
  rw [termCounts_at _ _ _ ht (List.getElem?_eq_getElem hlen)] at hm
  exact (Option.some.inj hm).symm

theorem satisfiedIn_none {st : Step} (h : ∀ j t, st.terms[j]? = some t → ¬ TermMet s inp k j t) :
    satisfiedIn (periodEnv s inp k) (countingWork s inp k).ch st = none := by
  rw [satisfiedIn_eq, firstSatisfied_none]
  intro j t m ht hm
  obtain ⟨n, hn, rfl⟩ := countsAfter_at ht hm
  exact Bool.eq_false_iff.2 fun hx => h j t ht ((termSatisfied_iff hn).1 hx)

/-! ### A step that goes on -/

/-- The work of a counted period in which the step goes on (R119 to R122). -/
def onWork (s : State) (inp : PeriodInput) (k : Fin 4) (st : Step) : Work := { workOf s inp k with
  ch := { measured (periodEnv s inp k) (s.channels.get k) with
    state := .running
    sequencer := { (s.channels.get k).sequencer with
      counters := { countedAfter s inp k with terms := countsAfter s inp k st } } } }

theorem stepNow_index {st : Step} (h : stepNow s k = some st) : ∃ i, (s.channels.get k).sequencer.index = some i := by
  unfold stepNow currentStep at h
  cases hi : (s.channels.get k).sequencer.index with
  | none => rw [hi] at h; cases hp : (s.channels.get k).sequencer.program <;> rw [hp] at h <;> cases h
  | some i => exact ⟨i, rfl⟩

/-- The counted work with its sequencer replaced. -/
theorem countingWork_with (q : Sequencer) : (countingWork s inp k).withSequencer q = { workOf s inp k with
    ch := { measured (periodEnv s inp k) (s.channels.get k) with state := .running, sequencer := q } } := by
  show { workOf s inp k with ch := { (countingWork s inp k).ch with sequencer := q } } = _
  rw [countingWork_ch]

theorem RunsOn.goes_on (h : RunsOn s inp k) (hg : StepGoesOn s inp k) :
    ∃ st, stepNow s k = some st ∧
      Machine.decided (periodEnv s inp k) (s.channels.get k) = onWork s inp k st := by
  obtain ⟨⟨st, hst, hmet⟩, hnext⟩ := hg
  obtain ⟨i, hi⟩ := stepNow_index hst
  refine ⟨st, hst, ?_⟩
  have hi' : (countingWork s inp k).ch.sequencer.index = some i := by rw [countingWork_ch]; exact hi
  have hn' : (countingWork s inp k).ch.sequencer.nextRequest = false := by rw [countingWork_ch]; exact hnext
  rw [h.decided, sequence_goes_on hi' (countingWork_step.trans hst) hn' (satisfiedIn_none hmet), countedSequencer_eq,
    countingWork_with]
  rfl

/-- The queue of a channel whose step goes on takes the capture's entries. -/
theorem RunsOn.goes_on_queue (h : RunsOn s inp k) (hg : StepGoesOn s inp k) {i : Nat}
    (hi : (s.channels.get k).sequencer.index = some i) :
    (periodState s inp).capture.channels.get k = offerAll (s.capture.channels.get k) (sampleEntries s inp k i) := by
  obtain ⟨st, -, hd⟩ := h.goes_on hg
  rw [h.1.queue, channelPeriod_entries, hd, sampledIn_eq (s := s) (inp := inp) (k := k) (.inl rfl) rfl rfl hi rfl]
  rfl

end

theorem period_captured (e : PeriodEnv) (ch : Channel) :
    (channelPeriod e ch).marks.captured = !(sampledIn e (decided e ch)).isEmpty := by
  rw [← worked_samples]
  simp only [channelPeriod, worked, decided, measured]

/-- The pacer after it captures: a new interval, or the accumulator less 1024 (R155). -/
theorem pacerWork_captured {p : Pacer} (h : (pacerWork p).2 = true) :
    (pacerWork p).1 = { p with acc := if p.mode = .interval then p.d else p.acc + p.d - 1024 } := by
  obtain ⟨mode, acc, d⟩ := p
  have hwhen := (pacerWork_captures _).1 h
  unfold pacerWork
  rcases hwhen with ⟨rfl, ha⟩ | ⟨rfl, ha⟩
  · exact congrArg Prod.fst (if_pos ha)
  · exact congrArg Prod.fst (if_pos ha)

/-! ### The run totals (R90) -/

/-- The totals of a channel with a run in progress count the period's current by its sign; the others stand. -/
theorem measured_totals (e : PeriodEnv) (ch : Channel) :
    (runCounts ch.state = true → (measured e ch).chargeIn = ch.chargeIn + e.inp.i.toInt.toNat ∧
      (measured e ch).chargeOut = ch.chargeOut + (-e.inp.i.toInt).toNat) ∧
    (runCounts ch.state = false → (measured e ch).chargeIn = ch.chargeIn ∧ (measured e ch).chargeOut = ch.chargeOut) :=
  ⟨fun h => ⟨if_pos h, if_pos h⟩, fun h => ⟨if_neg (ne_true_of_eq_false h), if_neg (ne_true_of_eq_false h)⟩⟩

/-- Outside IDLE and ENDED stage 3 leaves the totals. -/
theorem decided_totals (e : PeriodEnv) (ch : Channel) (hi : ch.state ≠ .idle) (he : ch.state ≠ .ended) :
    (decided e ch).ch.chargeIn = (measured e ch).chargeIn ∧ (decided e ch).ch.chargeOut = (measured e ch).chargeOut := by
  have hrec := recordAll_kept e (causesIn e ch) (Work.of (measured e ch))
  have hstate : ((causesIn e ch).foldl (recordFault e) (Work.of (measured e ch))).ch.state = ch.state := by
    rw [recordAll_touches]; rfl
  obtain ⟨hin, hout⟩ := (decideStage_cases e (causesIn e ch) (Work.of (measured e ch))).totals (by rw [hstate]; exact hi)
    (by rw [hstate]; exact he)
  exact ⟨hin.trans hrec.chargeIn, hout.trans hrec.chargeOut⟩

/-- A run that begins starts its totals at 0; a channel that stays IDLE or ENDED keeps them (R76). -/
theorem RunTaken.totals {e : PeriodEnv} {w w' : Work} (h : RunTaken e w w') :
    (w.ch.runRequest = true → e.stop = false → w'.ch.chargeIn = 0 ∧ w'.ch.chargeOut = 0) ∧
    (w.ch.runRequest = false ∨ e.stop = true → w'.ch.chargeIn = w.ch.chargeIn ∧ w'.ch.chargeOut = w.ch.chargeOut) := by
  have hnot {a b : Bool} (ha : a = true) (hb : b = false) : ¬ (a = false ∨ b = true) := by rw [ha, hb]; decide
  cases h with
  | none hr => exact ⟨fun hx => absurd (hx.symm.trans hr) (by decide), fun _ => ⟨rfl, rfl⟩⟩
  | stop hr hs => exact ⟨fun _ hx => absurd (hx.symm.trans hs) (by decide), fun _ => ⟨rfl, rfl⟩⟩
  | fails c hr hs =>
    have hkept := failClosing_kept e c (begunWork w)
    exact ⟨fun _ _ => ⟨hkept.chargeIn, hkept.chargeOut⟩, fun hx => absurd hx (hnot hr hs)⟩
  | passes hr hs => exact ⟨fun _ _ => ⟨rfl, rfl⟩, fun hx => absurd hx (hnot hr hs)⟩

/-- Settles O8: the frame counter moves from position 0 and the frame of a running pattern is counted. -/
theorem frameBoundaryCountsFrames : Obligations.FrameBoundaryCountsFrames := by
  unfold Obligations.FrameBoundaryCountsFrames
  intro inp s hready h0
  have hcame : (isReady s && decide (s.framePos = 0)) = true := by rw [(isReady_iff s).2 hready, decide_eq_true h0]; rfl
  refine ⟨periodState s inp, congrArg Host.Outcome.next (periodWhen_true hcame inp s), periodFrame s inp, ?_,
    fun k h hg => ?_⟩
  · rw [(periodState_ready hready inp).1, h0]; rfl
  · obtain ⟨st, -, hd⟩ := h.goes_on hg
    rw [h.1.channel, period_sequencer, hd]
    show (countedAfter s inp k).pulses = _
    unfold countedAfter
    dsimp only
    by_cases hb : (s.channels.get k).live.active = true ∧ (s.channels.get k).staged.valid = false
    · rw [if_pos hb, if_pos ⟨h0, hb⟩]
    · rw [if_neg hb, if_neg (fun hx => hb hx.2)]

/-- Settles O9: the captured sample and the accumulator after it. -/
theorem sampleIsCaptured : Obligations.SampleIsCaptured := by
  unfold Obligations.SampleIsCaptured
  intro inp s k i h hg hi hcap
  obtain ⟨st, -, hd⟩ := h.goes_on hg
  have hwhen : ((s.channels.get k).pacer.mode = .interval ∧ 1023 < (s.channels.get k).pacer.acc + 1) ∨
      ((s.channels.get k).pacer.mode = .fraction ∧ 1023 < (s.channels.get k).pacer.acc + (s.channels.get k).pacer.d) :=
    hcap.imp_left fun ⟨hm, ha⟩ => ⟨hm, by omega⟩
  have hentries : sampleEntries s inp k i = [.sample k (s.tick + 1) i (bandAfter s inp k).val (inp.channels.get k).v
      (inp.channels.get k).i (inp.channels.get k).t] := if_pos hwhen
  have hsampled : sampledIn (periodEnv s inp k) (decided (periodEnv s inp k) (s.channels.get k)) =
      sampleEntries s inp k i := by
    rw [hd]; exact sampledIn_eq (.inl rfl) rfl rfl hi rfl
  have hcame : (periodOf s inp k).marks.captured = true := by
    rw [period_captured, hsampled, hentries]; rfl
  refine ⟨periodState s inp, congrArg Host.Outcome.next (periodWhen_true (h.1.comes_about hcame) inp s), periodFrame s inp,
    ?_, ?_⟩
  · rw [h.1.channel, period_pacer, worked_pacer, hd]
    exact pacerWork_captured ((pacerWork_captures _).2 hwhen)
  · rw [h.goes_on_queue hg hi, hentries]; rfl

/-- Settles O10: the counters and the terms of a counted period, and the totals of every period. -/
theorem runningStepCounts : Obligations.RunningStepCounts := by
  unfold Obligations.RunningStepCounts
  refine ⟨fun inp s k h hg => ⟨periodState s inp, rfl, ?counts⟩, fun inp s k h => ⟨periodState s inp, rfl, ?totals⟩⟩
  case counts =>
    obtain ⟨st, hst, hd⟩ := h.goes_on hg
    rw [h.1.channel, period_state, period_sequencer, hd]
    refine ⟨rfl, rfl, rfl, rfl, rfl, rfl, rfl, rfl, rfl, fun st' j x hst' hx hlen => ?_⟩
    obtain rfl : st = st' := Option.some.inj (hst.symm.trans hst')
    have hold : (s.channels.get k).sequencer.counters.terms[j]? = some _ := List.getElem?_eq_getElem hlen
    have hcount : (countsAfter s inp k st)[j]? = some _ := termCounts_at _ _ _ hx hold
    show (_ → (countsAfter s inp k st)[j]? = _) ∧ (_ → (countsAfter s inp k st)[j]? = _)
    rw [hcount]
    exact ⟨fun hl => congrArg some (termCount_lasting hl hold), fun hl => by rw [termCount_other hl, hold]⟩
  case totals =>
    have hkept := decided_kept (periodEnv s inp k) (s.channels.get k)
    rw [h.channel, period_vMeas, period_chargeIn, period_chargeOut]
    obtain ⟨hcounts, hstands⟩ := measured_totals (periodEnv s inp k) (s.channels.get k)
    have htotals := decided_totals (periodEnv s inp k) (s.channels.get k)
    have hrest : (s.channels.get k).state ∈ ([.idle, .ended] : List ChannelState) →
        (s.channels.get k).state = .idle ∨ (s.channels.get k).state = .ended := by simp
    refine ⟨hkept.vMeas, fun hs => ?run, fun hs hr hstop => ?taken, fun hs => ?rests⟩
    case run =>
      obtain ⟨hi, he, hruns⟩ : (s.channels.get k).state ≠ .idle ∧ (s.channels.get k).state ≠ .ended ∧
          runCounts (s.channels.get k).state = true := by
        generalize (s.channels.get k).state = c at hs ⊢
        cases c <;> revert hs <;> decide
      rw [(htotals hi he).1, (htotals hi he).2]
      exact hcounts hruns
    case taken =>
      rw [decided_of_rest (hrest hs)]
      exact (takeRun_cases (periodEnv s inp k) (workOf s inp k)).totals.1 hr hstop
    case rests =>
      rcases hs with hs | ⟨hs, hwhy⟩
      · have hruns : runCounts (s.channels.get k).state = false := by rw [hs]; rfl
        rw [(htotals (by simp [hs]) (by simp [hs])).1, (htotals (by simp [hs]) (by simp [hs])).2]
        exact hstands hruns
      · have hruns : runCounts (s.channels.get k).state = false := by
          rcases hrest hs with hs | hs <;> (rw [hs]; rfl)
        rw [decided_of_rest (hrest hs), ← (hstands hruns).1, ← (hstands hruns).2]
        exact (takeRun_cases (periodEnv s inp k) (workOf s inp k)).totals.2 hwhy

end Sys2Proof.Machine
end

section
/-! PROOFS. The pulse pairs and the targets of a period (R100 to R107, R137 to R139). -/

namespace Sys2Proof.Machine

/-! ### The pulse output (R138, R139) -/

theorem loadPairs_live (ch : Channel) : (loadPairs ch).live =
    if ch.staged.valid = true then ⟨true, ch.staged.amplitude, ch.staged.base, ch.staged.onTime, ch.staged.onTime⟩
    else if ch.live.active = true then { ch.live with remaining := ch.live.onTime } else ch.live := by
  unfold loadPairs; dsimp only
  by_cases hv : ch.staged.valid = true
  · rw [if_pos hv, if_pos hv]; rfl
  · rw [if_neg hv, if_neg hv]; split <;> rfl

theorem loadPairs_staged (ch : Channel) :
    (loadPairs ch).staged = if ch.staged.valid = true then StagedPair.clear else ch.staged := by
  unfold loadPairs; dsimp only
  by_cases hv : ch.staged.valid = true
  · rw [if_pos hv, if_pos hv]; rfl
  · rw [if_neg hv, if_neg hv]; split <;> rfl

/-- The target by the pairs (R139): amplitude while on-time remains, then base; the staged base before the first load. -/
theorem pulseTarget_eq (ch : Channel) : ((pulseTarget ch).2.live, (pulseTarget ch).2.staged, (pulseTarget ch).1) =
    if ch.live.active = true then
      if 0 < ch.live.remaining then
        ({ ch.live with remaining := ch.live.remaining - 1 }, ch.staged, ch.live.amplitude)
      else (ch.live, ch.staged, ch.live.base)
    else (ch.live, ch.staged, if ch.staged.valid = true then ch.staged.base else 0) := by
  unfold pulseTarget
  split
  · split <;> rfl
  · split <;> rfl

/-- The load and the target of a pulse period in the words of the statements. -/
theorem pulseTarget_period (pos : Nat) (ch : Channel) :
    ((pulseTarget (if pos = 0 then loadPairs ch else ch)).2.live, (pulseTarget (if pos = 0 then loadPairs ch else ch)).2.staged,
      (pulseTarget (if pos = 0 then loadPairs ch else ch)).1) = pulsePeriod pos ch.live ch.staged := by
  rw [pulseTarget_eq]
  unfold pulsePeriod
  by_cases hpos : pos = 0
  · simp only [hpos, if_true, true_and, loadPairs_live, loadPairs_staged]
    rfl
  · simp only [hpos, if_false, false_and]

section
variable {e : PeriodEnv} {w : Work} {ch : Channel} {st : Step}

theorem pulseOutput_pulse (hs : w.ch.state = .running) (hst : currentStep e.programs w.ch = some st) {a b : Int} {n : Nat}
    (hk : st.kind = .pulse a b n) :
    ((pulseOutput e w).ch.live, (pulseOutput e w).ch.staged, (pulseOutput e w).pulse) =
      pulsePeriod e.pos w.ch.live w.ch.staged := by
  obtain ⟨kind, _, _, _, _⟩ := st
  subst hk
  unfold pulseOutput
  rw [if_pos hs, hst]
  exact pulseTarget_period e.pos w.ch

theorem pulseOutput_other (hst : currentStep e.programs w.ch = some st) (hk : ∀ a b n, st.kind ≠ .pulse a b n) :
    pulseOutput e w = w := by
  unfold pulseOutput
  rw [hst]
  split
  · split
    · next heq => cases heq; exact absurd rfl (hk _ _ _)
    · rfl
  · rfl

/-- The pulse output of a period that reaches RUNNING in a PULSE step. -/
theorem worked_pulse (hs : (decided e ch).ch.state = .running) (hst : currentStep e.programs (decided e ch).ch = some st)
    {a b : Int} {n : Nat} (hk : st.kind = .pulse a b n) :
    ((worked e ch).ch.live, (worked e ch).ch.staged, (worked e ch).pulse) =
      pulsePeriod e.pos (decided e ch).ch.live (decided e ch).ch.staged := by
  rw [← pulseOutput_pulse hs hst hk]
  unfold worked
  rw [captureStage_touches]

/-- In a step of another kind the pairs stay as stage 3 decided them. -/
theorem worked_pairs_other (hst : currentStep e.programs (decided e ch).ch = some st)
    (hk : ∀ a b n, st.kind ≠ .pulse a b n) :
    (worked e ch).ch.live = (decided e ch).ch.live ∧ (worked e ch).ch.staged = (decided e ch).ch.staged := by
  unfold worked
  rw [pulseOutput_other hst hk, captureStage_touches]
  exact ⟨rfl, rfl⟩

/-! ### The base target (R100, R101) -/

theorem cvOf_entered {e : RegulateEnv} (h : e.entered = true) (c : ChannelState) (cv : Nat) : cvOf e c cv = cv :=
  if_neg fun hx => absurd (h.symm.trans hx.2) (by decide)

theorem cvOf_chargeCV {e : RegulateEnv} (he : e.entered = false) (hst : e.step = some st) {vCv iSet : Nat}
    (hk : st.kind = .chargeCV vCv iSet) (cv : Nat) : cvOf e .running cv = cvUpdate e.set.cvStep vCv iSet e.v cv := by
  obtain ⟨kind, _, _, _, _⟩ := st
  subst hk
  unfold cvOf
  rw [if_pos ⟨rfl, he⟩, hst]

theorem cvOf_other {e : RegulateEnv} (hst : e.step = some st) (hk : ∀ vCv iSet, st.kind ≠ .chargeCV vCv iSet)
    (c : ChannelState) (cv : Nat) : cvOf e c cv = cv := by
  unfold cvOf
  rw [hst]
  split
  · split
    · next heq => cases heq; exact absurd rfl (hk _ _)
    · rfl
  · rfl

theorem baseTarget_step {e : RegulateEnv} (hst : e.step = some st) (cv : Nat) :
    baseTarget e .running cv = stepTarget st.kind cv e.v e.pulse := by
  unfold baseTarget; rw [if_pos rfl, hst]

theorem baseTarget_rests {e : RegulateEnv} {c : ChannelState} (h : c ≠ .running) (cv : Nat) : baseTarget e c cv = 0 :=
  if_neg h

theorem worked_step (e : PeriodEnv) (ch : Channel) :
    currentStep e.programs (worked e ch).ch = currentStep e.programs (decided e ch).ch := by
  rw [worked_touches]; rfl

/-- The regulator of a period that reaches RUNNING in a step (R100, R101). -/
theorem period_targets (hs : (decided e ch).ch.state = .running) (hst : currentStep e.programs (decided e ch).ch = some st) :
    (channelPeriod e ch).ch.regulator.cv =
      cvOf (regulateEnv e (worked e ch)) .running (decided e ch).ch.regulator.cv ∧
    (channelPeriod e ch).ch.regulator.base =
      stepTarget st.kind (channelPeriod e ch).ch.regulator.cv e.inp.v (worked e ch).pulse := by
  have hstate : (worked e ch).ch.state = .running := (worked_state e ch).trans hs
  obtain ⟨hbase, hcv, -⟩ := regulate_works (e := regulateEnv e (worked e ch)) (ch := (worked e ch).ch) (by rw [hstate]; rfl)
  have hreg : (worked e ch).ch.regulator = (decided e ch).ch.regulator := by rw [worked_touches]
  rw [hstate, hreg] at hbase hcv
  rw [period_regulator, hcv, hbase]
  exact ⟨rfl, baseTarget_step (e := regulateEnv e (worked e ch)) ((worked_step e ch).trans hst) _⟩

/-- The CV target of a period that reaches RUNNING in a step not entered in it (R101). -/
theorem period_cv (hs : (decided e ch).ch.state = .running) (hst : currentStep e.programs (decided e ch).ch = some st)
    (he : (decided e ch).entered = false) :
    (∀ vCv iSet, st.kind = .chargeCV vCv iSet → (channelPeriod e ch).ch.regulator.cv =
      cvUpdate e.set.cvStep vCv iSet e.inp.v (decided e ch).ch.regulator.cv) ∧
    ((∀ vCv iSet, st.kind ≠ .chargeCV vCv iSet) →
      (channelPeriod e ch).ch.regulator.cv = (decided e ch).ch.regulator.cv) := by
  have hentered : (worked e ch).entered = false := by rw [worked_touches]; exact he
  have hstep := (worked_step e ch).trans hst
  rw [(period_targets hs hst).1]
  generalize worked e ch = w at hentered hstep
  exact ⟨fun vCv iSet hk => cvOf_chargeCV (e := regulateEnv e w) hentered hstep hk _,
    fun hk => cvOf_other (e := regulateEnv e w) hstep hk _ _⟩

/-- A PULSE step gives its pulse target as the base target. -/
theorem period_pulse (hs : (decided e ch).ch.state = .running) (hst : currentStep e.programs (decided e ch).ch = some st)
    {a b : Int} {n : Nat} (hk : st.kind = .pulse a b n) :
    ((channelPeriod e ch).ch.live, (channelPeriod e ch).ch.staged, (channelPeriod e ch).ch.regulator.base) =
      pulsePeriod e.pos (decided e ch).ch.live (decided e ch).ch.staged := by
  rw [period_live, period_staged, (period_targets hs hst).2, hk]
  exact worked_pulse hs hst hk

end

section
variable {s : State} {inp : PeriodInput} {k : Fin 4} {st : Step}

theorem onWork_step (hst : stepNow s k = some st) (st' : Step) :
    currentStep (periodEnv s inp k).programs (onWork s inp k st').ch = some st := hst

end

/-- Settles O60: a PULSE step that goes on loads its pairs and takes its target from them; another step leaves them. -/
theorem pulsePairsMakeTheTarget : Obligations.PulsePairsMakeTheTarget := by
  unfold Obligations.PulsePairsMakeTheTarget
  intro inp s k st h hg hst
  obtain ⟨st', hst', hd⟩ := h.goes_on hg
  have hstate : (decided (periodEnv s inp k) (s.channels.get k)).ch.state = .running := by rw [hd]; rfl
  have hstep : currentStep (periodEnv s inp k).programs (decided (periodEnv s inp k) (s.channels.get k)).ch = some st := by
    rw [hd]; exact onWork_step hst st'
  refine ⟨periodState s inp, rfl, fun a b n hk => ?_, fun hk => ?_⟩
  · rw [h.1.channel, period_pulse hstate hstep hk, hd]; rfl
  · obtain ⟨hlive, hstaged⟩ := worked_pairs_other hstep hk
    rw [h.1.channel, period_live, period_staged, hlive, hstaged, hd]
    exact ⟨rfl, rfl⟩

/-- Stage 4 in the words of the period's environment (R102 to R107). -/
theorem regulate_of_env {e : PeriodEnv} {w : Work} (hs : regulates w.ch.state = true) :
    (regulate (regulateEnv e w) w.ch).regulator.limited = grantLimit e.st.q e.grant e.inp.v
      (bandLimit (e.limits w.ch) (regulate (regulateEnv e w) w.ch).regulator.base) ∧
    (regulate (regulateEnv e w) w.ch).setpoint = rampSetpoint e.set.ramp w.ch.setpoint
      (cutSetpoint (envelopeTop (e.limits w.ch) e.st.q e.grant e.inp.v)
        (envelopeBottom (e.limits w.ch) e.st.q e.grant e.inp.v) w.ch.setpoint)
      (regulate (regulateEnv e w) w.ch).regulator.limited ∧
    ((regulate (regulateEnv e w) w.ch).regulator.limitedFlag = true ↔
      (regulate (regulateEnv e w) w.ch).regulator.limited.natAbs < (regulate (regulateEnv e w) w.ch).regulator.base.natAbs ∨
        (regulate (regulateEnv e w) w.ch).setpoint ≠ (regulate (regulateEnv e w) w.ch).regulator.limited) := by
  obtain ⟨-, -, hlimited, hsetpoint, hflag⟩ := regulate_works (e := regulateEnv e w) hs
  exact ⟨hlimited, hsetpoint, by rw [hflag, Bool.or_eq_true, decide_eq_true_iff, decide_eq_true_iff]⟩

/-- The limited target, the setpoint and the limited flag of a period that reaches a state with a converter. -/
theorem period_limits {e : PeriodEnv} {ch : Channel} (hs : regulates (channelPeriod e ch).ch.state = true) {l : Limits}
    (hl : l = limitsOf e.st (bandNext e.st e.inp.t.toInt ch.band) e.k) :
    (channelPeriod e ch).ch.regulator.limited =
      grantLimit e.st.q e.grant e.inp.v (bandLimit l (channelPeriod e ch).ch.regulator.base) ∧
    (channelPeriod e ch).ch.setpoint = rampSetpoint e.set.ramp ch.setpoint
      (cutSetpoint (envelopeTop l e.st.q e.grant e.inp.v) (envelopeBottom l e.st.q e.grant e.inp.v) ch.setpoint)
      (channelPeriod e ch).ch.regulator.limited ∧
    ((channelPeriod e ch).ch.regulator.limitedFlag = true ↔
      (channelPeriod e ch).ch.regulator.limited.natAbs < (channelPeriod e ch).ch.regulator.base.natAbs ∨
        (channelPeriod e ch).ch.setpoint ≠ (channelPeriod e ch).ch.regulator.limited) := by
  rw [period_state, ← worked_state] at hs
  rw [hl, ← worked_limits e ch, ← worked_setpoint e ch hs, period_regulator, period_setpoint]
  unfold regulated
  generalize worked e ch = w at hs ⊢
  exact regulate_of_env hs

/-- A period that reaches HELD or STOPPING has the base target 0 (R100). -/
theorem period_base_rests {e : PeriodEnv} {ch : Channel} (hs : regulates (channelPeriod e ch).ch.state = true)
    (hne : (channelPeriod e ch).ch.state ≠ .running) : (channelPeriod e ch).ch.regulator.base = 0 := by
  rw [period_state, ← worked_state] at hs hne
  rw [period_regulator, (regulate_works hs).1]
  exact baseTarget_rests hne _

/-- A period that reaches no state with a converter has nothing to regulate (R99). -/
theorem period_regulates_nothing {e : PeriodEnv} {ch : Channel} (hs : regulates (channelPeriod e ch).ch.state = false) :
    (channelPeriod e ch).ch.setpoint = 0 ∧ (channelPeriod e ch).ch.regulator.base = 0 ∧
    (channelPeriod e ch).ch.regulator.limited = 0 ∧ (channelPeriod e ch).ch.regulator.limitedFlag = false := by
  rw [period_state, ← worked_state] at hs
  rw [period_regulator, period_setpoint]
  unfold regulated
  generalize worked e ch = w at hs ⊢
  exact regulate_idle hs

/-- Settles O59: the limited target and the setpoint of every period, the base target and the CV target of a step that goes on. -/
theorem targetsAndSetpoint : Obligations.TargetsAndSetpoint := by
  unfold Obligations.TargetsAndSetpoint
  refine ⟨fun inp s k h => ⟨periodState s inp, rfl, ?limits⟩,
    fun inp s k st h hg hst => ⟨periodState s inp, rfl, ?targets⟩⟩
  case limits =>
    rw [h.channel]
    dsimp only
    refine ⟨fun hs => ?held, fun hs => ?works, fun hs => ?rests⟩
    case held =>
      obtain ⟨hreg, hne⟩ : regulates (periodOf s inp k).ch.state = true ∧ (periodOf s inp k).ch.state ≠ .running := by
        generalize (periodOf s inp k).ch.state = c at hs ⊢
        cases c <;> revert hs <;> decide
      exact period_base_rests hreg hne
    case works =>
      have hlimits := period_limits (l := limitsAfter s inp k) ((regulates_iff _).2 hs) rfl
      obtain ⟨hlimited, hsetpoint, hflag⟩ := hlimits
      obtain ⟨hpos, hneg, hzero⟩ := limitedTarget_cases (limitsAfter s inp k) s.loader.settings.q (s.walk.grants.get k)
        (inp.channels.get k).v (periodOf s inp k).ch.regulator.base
      have hlimited : (periodOf s inp k).ch.regulator.limited = grantLimit s.loader.settings.q (s.walk.grants.get k)
        (inp.channels.get k).v (bandLimit (limitsAfter s inp k) (periodOf s inp k).ch.regulator.base) := hlimited
      rw [← hlimited] at hpos hneg hzero
      exact ⟨hpos, hneg, hzero, hsetpoint, hflag⟩
    case rests =>
      exact period_regulates_nothing (Bool.eq_false_iff.2 fun hx => hs ((regulates_iff _).1 hx))
  case targets =>
    obtain ⟨st', hst', hd⟩ := h.goes_on hg
    have hstate : (decided (periodEnv s inp k) (s.channels.get k)).ch.state = .running := by rw [hd]; rfl
    have hstep : currentStep (periodEnv s inp k).programs (decided (periodEnv s inp k) (s.channels.get k)).ch = some st := by
      rw [hd]; exact onWork_step hst st'
    have hregulator : (decided (periodEnv s inp k) (s.channels.get k)).ch.regulator = (s.channels.get k).regulator := by
      rw [hd]; rfl
    obtain ⟨hupdate, hsame⟩ := period_cv hstate hstep (by rw [hd]; rfl)
    have hbase := (period_targets hstate hstep).2
    rw [hregulator] at hupdate hsame
    rw [h.1.channel]
    generalize (channelPeriod (periodEnv s inp k) (s.channels.get k)).ch.regulator = r at hupdate hsame hbase ⊢
    generalize (worked (periodEnv s inp k) (s.channels.get k)).pulse = p at hbase
    refine ⟨fun vCv iSet hk => ?_, hsame, fun i hk => ?_, fun i hk => ?_, fun p hk => ?_, fun hk => ?_⟩
    · have hcv : r.cv = cvUpdate (s.loader.settings.channels.get k).cvStep vCv iSet (inp.channels.get k).v
        (s.channels.get k).regulator.cv := hupdate vCv iSet hk
      unfold cvUpdate at hcv
      rw [hbase, hk, hcv]
      exact ⟨fun hv => if_pos hv, fun hv => by rw [if_neg (by omega), if_pos hv],
        fun hlow hhigh => by rw [if_neg (by omega), if_neg (by omega)], rfl⟩
    all_goals rw [hbase, hk]; rfl

end Sys2Proof.Machine
end

section
/-! PROOFS. A step that is entered in a period, and holds (R84, R118, R127, R132, R137, R141, R152). -/

namespace Sys2Proof.Machine

/-! ### The entry of a step (R118) -/

theorem stagePulse_pulse (a b : Int) (n : Nat) (ch : Channel) :
    stagePulse (.pulse a b n) ch = { ch with staged := ⟨true, a, b, n⟩ } := rfl

theorem stagePulse_other {kind : StepKind} (hk : ∀ a b n, kind ≠ .pulse a b n) (ch : Channel) :
    stagePulse kind ch = clearPairs ch := by
  cases kind with
  | pulse a b n => exact absurd rfl (hk a b n)
  | _ => rfl

theorem enterStep_touches (i : Nat) (st : Step) (stack : List LoopEntry) (cycles : Nat) (w : Work) :
    enterStep i st stack cycles w = { w with
      entered := true
      ch := { w.ch with
        live := (stagePulse st.kind w.ch).live
        staged := (stagePulse st.kind w.ch).staged
        sequencer := { w.ch.sequencer with
          index := some i, ended := false, counters := Counters.zero, stack := stack, cycles := cycles }
        regulator := { w.ch.regulator with cv := entryCv st.kind w.ch.regulator.cv }
        pacer := ⟨st.capture, st.d, Config.captureTop⟩ } } := by
  unfold enterStep
  rw [stagePulse_touches]

/-- A release of the channel before or after the entry of its step is one. -/
theorem releasedWork_enterStep (i : Nat) (st : Step) (stack : List LoopEntry) (cycles : Nat) (w : Work) :
    releasedWork (enterStep i st stack cycles w) = enterStep i st stack cycles (releasedWork w) := by
  unfold enterStep stagePulse releasedWork
  cases st.kind <;> rfl

/-- The step that was entered is current. -/
theorem enterStep_current {programs : List Program} {i p : Nat} {st : Step} {stack : List LoopEntry} {cycles : Nat} {w : Work}
    (hp : w.ch.sequencer.program = some p) (hst : (stepsOf programs p)[i]? = some st) :
    currentStep programs (enterStep i st stack cycles w).ch = some st := by
  rw [enterStep_touches]
  unfold currentStep
  dsimp only
  rw [hp]
  exact hst

section
variable {e : PeriodEnv} {ch : Channel} {s : State} {inp : PeriodInput} {k : Fin 4}

/-- The CV target of a period that enters a step is the one of the entry (R101, R118). -/
theorem period_cv_entered {st : Step} (hs : (decided e ch).ch.state = .running)
    (hst : currentStep e.programs (decided e ch).ch = some st) (he : (decided e ch).entered = true) :
    (channelPeriod e ch).ch.regulator.cv = (decided e ch).ch.regulator.cv := by
  have hentered : (worked e ch).entered = true := by rw [worked_touches]; exact he
  rw [(period_targets hs hst).1]
  generalize worked e ch = w at hentered
  exact cvOf_entered (e := regulateEnv e w) hentered _ _

/-- A period that enters a step in RUNNING (R118, R137, R154). -/
theorem Works.enters_step (h : Works s k) {i p : Nat} {st : Step} {stack : List LoopEntry} {cycles : Nat} {w : Work}
    (hd : decided (periodEnv s inp k) (s.channels.get k) = enterStep i st stack cycles w) (hs : w.ch.state = .running)
    (hp : w.ch.sequencer.program = some p) (hst : (stepsOf s.loader.programs p)[i]? = some st)
    (hlive : w.ch.live = (s.channels.get k).live) :
    ((periodOf s inp k).ch.state = .running ∧ (periodOf s inp k).ch.drive = true ∧ (periodOf s inp k).ch.enabled = true) ∧
    (periodOf s inp k).ch.sequencer = { w.ch.sequencer with
      index := some i, ended := false, counters := Counters.zero, stack := stack, cycles := cycles } ∧
    (periodOf s inp k).ch.pacer = ⟨st.capture, st.d, 1023⟩ ∧ EntersPulse s k st.kind (periodOf s inp k).ch ∧
    (periodOf s inp k).ch.regulator.cv = entryCv st.kind w.ch.regulator.cv ∧
    (periodState s inp).capture.channels.get k = offerAll (s.capture.channels.get k) (w.faults ++ w.ends ++ w.runs) := by
  have hentered : (decided (periodEnv s inp k) (s.channels.get k)).entered = true := by rw [hd, enterStep_touches]
  have hstate : (decided (periodEnv s inp k) (s.channels.get k)).ch.state = .running := by
    rw [hd, enterStep_touches]; exact hs
  have hstep : currentStep (periodEnv s inp k).programs (decided (periodEnv s inp k) (s.channels.get k)).ch = some st := by
    rw [hd]; exact enterStep_current hp hst
  obtain ⟨hdrive, henabled⟩ := period_at_work (e := periodEnv s inp k) (ch := s.channels.get k) (by rw [hstate]; rfl)
  refine ⟨⟨by rw [period_state, hstate], hdrive, henabled⟩, ?_, ?_, ⟨fun a b n hk => ?_, fun hk => ?_⟩, ?_, ?_⟩
  · rw [period_sequencer, hd, enterStep_touches]
  · rw [period_pacer, worked_pacer, if_neg (fun hx => absurd (hentered.symm.trans hx.2) (by decide)), hd, enterStep_touches]
    rfl
  · rw [period_pulse hstate hstep hk, hd, enterStep_touches, hk, stagePulse_pulse, hlive]
    rfl
  · obtain ⟨hl, hg⟩ := worked_pairs_other hstep hk
    rw [period_live, period_staged, hl, hg, hd, enterStep_touches, stagePulse_other hk]
    exact ⟨rfl, rfl⟩
  · rw [period_cv_entered hstate hstep hentered, hd, enterStep_touches]
  · rw [h.queue, channelPeriod_entries, sampledIn_entered _ hentered, List.append_nil, hd, enterStep_touches]

end

/-! ### Holds (R84, R141) -/

theorem enterHeld_pairs {e : PeriodEnv} {ch : Channel} {st : Step} (hst : currentStep e.programs ch = some st) :
    (enterHeld e ch).live = (holdPairs st.kind ch.holdMode ch).live ∧
    (enterHeld e ch).staged = (holdPairs st.kind ch.holdMode ch).staged := by
  unfold enterHeld
  rw [hst]
  exact ⟨rfl, rfl⟩

/-- The pairs of a PULSE step at the entry to HELD (R141). -/
theorem enterHeld_pulse {e : PeriodEnv} {ch : Channel} {st : Step} (hst : currentStep e.programs ch = some st) {a b : Int}
    {n : Nat} (hk : st.kind = .pulse a b n) :
    (enterHeld e ch).live = { ch.live with active := false, remaining := 0 } ∧
    (enterHeld e ch).staged = if ch.holdMode = .restart then ⟨true, a, b, n⟩
      else if ch.staged.valid = true then ch.staged
      else ⟨true, ch.live.amplitude, ch.live.base, ch.live.onTime⟩ := by
  obtain ⟨hlive, hstaged⟩ := enterHeld_pairs hst
  rw [hlive, hstaged, hk]
  exact ⟨rfl, rfl⟩

/-- In another step the pairs stay at the entry to HELD. -/
theorem enterHeld_other {e : PeriodEnv} {ch : Channel} {st : Step} (hst : currentStep e.programs ch = some st)
    (hk : ∀ a b n, st.kind ≠ .pulse a b n) : (enterHeld e ch).live = ch.live ∧ (enterHeld e ch).staged = ch.staged := by
  have hpairs : holdPairs st.kind ch.holdMode ch = ch := by
    cases hkind : st.kind with
    | pulse a b n => exact absurd hkind (hk a b n)
    | _ => rfl
  obtain ⟨hlive, hstaged⟩ := enterHeld_pairs hst
  rw [hlive, hstaged, hpairs]
  exact ⟨rfl, rfl⟩

/-- A period that reaches HELD leaves the pacer and what stage 3 made of the pairs, and takes no SAMPLE entry. -/
theorem Works.is_held {s : State} {inp : PeriodInput} {k : Fin 4} (h : Works s k) {w : Work}
    (hd : decided (periodEnv s inp k) (s.channels.get k) = w) (hs : w.ch.state = .held) :
    (periodOf s inp k).ch.state = .held ∧ (periodOf s inp k).ch.sequencer = w.ch.sequencer ∧
    (periodOf s inp k).ch.pacer = w.ch.pacer ∧ (periodOf s inp k).ch.drive = true ∧ (periodOf s inp k).ch.enabled = true ∧
    (periodOf s inp k).ch.live = w.ch.live ∧ (periodOf s inp k).ch.staged = w.ch.staged ∧
    (periodState s inp).capture.channels.get k = offerAll (s.capture.channels.get k) (w.faults ++ w.ends ++ w.runs) := by
  have hstate : (decided (periodEnv s inp k) (s.channels.get k)).ch.state = .held := by rw [hd, hs]
  obtain ⟨hdrive, henabled⟩ := period_at_work (e := periodEnv s inp k) (ch := s.channels.get k) (by rw [hstate]; rfl)
  obtain ⟨hlive, hstaged⟩ := worked_pairs_rest (e := periodEnv s inp k) (ch := s.channels.get k) (by rw [hstate]; decide)
  rw [h.queue_rests hd hs (by decide), period_state, period_sequencer, period_pacer, worked_pacer, period_live, period_staged,
    hlive, hstaged, hstate, if_neg (by simp), hd]
  exact ⟨rfl, rfl, rfl, hdrive, henabled, rfl, rfl, rfl⟩

/-- Settles O17: the entry to HELD, HELD, and the releases under FREEZE and under RESTART. -/
theorem holdHaltsAndReleases : Obligations.HoldHaltsAndReleases := by
  unfold Obligations.HoldHaltsAndReleases
  refine ⟨fun inp s k h hs hr hc hhold => ⟨periodState s inp, rfl, ?enters⟩,
    fun inp s k h hs hr hc hhold => ⟨periodState s inp, rfl, ?stays⟩,
    fun inp s k h hs hr hc hhold hm hg => ⟨periodState s inp, rfl, ?freeze⟩,
    fun inp s k i st h hs hr hc hhold hm hi hst he => ⟨periodState s inp, rfl, ?restart⟩⟩
  case enters =>
    have hd := (decided_of_no_causes hc).trans
      (decideStage_hold (e := periodEnv s inp k) (w := workOf s inp k) hs hr (holds_iff.2 hhold))
    obtain ⟨hstate, hseq, hpacer, hdrive, henabled, hlive, hstaged, hqueue⟩ := h.is_held hd rfl
    rw [h.channel, hseq, hpacer, hlive, hstaged, hqueue]
    refine ⟨hstate, ?_, ?_, hdrive, henabled, rfl, fun st a b n hst hk => ?_, fun st hst hk => ?_⟩
    · dsimp only; rw [enterHeld_touches]; rfl
    · dsimp only; rw [enterHeld_touches]; rfl
    · obtain ⟨hl, hg⟩ := enterHeld_pulse (e := periodEnv s inp k) (ch := measured (periodEnv s inp k) (s.channels.get k))
        hst hk
      refine ⟨hl, fun hm => hg.trans (if_pos hm), fun hm hv => ?_, fun hm hv => ?_⟩
      · exact (hg.trans (if_neg fun hx => absurd (hm.symm.trans hx) (by decide))).trans (if_pos hv)
      · exact (hg.trans (if_neg fun hx => absurd (hm.symm.trans hx) (by decide))).trans (if_neg (ne_true_of_eq_false hv))
    · exact enterHeld_other (e := periodEnv s inp k) (ch := measured (periodEnv s inp k) (s.channels.get k)) hst hk
  case stays =>
    have hd := (decided_of_no_causes hc).trans (decideStage_held (e := periodEnv s inp k) (w := workOf s inp k) hs hr hhold)
    obtain ⟨hstate, hseq, hpacer, -, -, hlive, hstaged, hqueue⟩ := h.is_held hd hs
    rw [h.channel, hseq, hpacer, hlive, hstaged, hqueue]
    exact ⟨hstate, rfl, rfl, rfl, rfl, rfl⟩
  case freeze =>
    have hruns : RunsOn s inp k := ⟨h, hr, hc, .inr ⟨hs, hhold, hm⟩⟩
    obtain ⟨st', hst', hd⟩ := hruns.goes_on hg
    have hstate : (decided (periodEnv s inp k) (s.channels.get k)).ch.state = .running := by rw [hd]; rfl
    rw [h.channel, period_state, hstate, period_sequencer]
    refine ⟨rfl, by rw [hd]; rfl, by rw [hd]; rfl, fun st a b n hst hk => ?_, fun i hi => hruns.goes_on_queue hg hi⟩
    have hstep : currentStep (periodEnv s inp k).programs (decided (periodEnv s inp k) (s.channels.get k)).ch = some st := by
      rw [hd]; exact onWork_step hst st'
    rw [period_pulse hstate hstep hk, hd]; rfl
  case restart =>
    have hd := ((decided_of_no_causes hc).trans
      (decideStage_release (e := periodEnv s inp k) (w := workOf s inp k) hs hr hhold)).trans
      (releaseHold_restart (e := periodEnv s inp k) (w := workOf s inp k) hm hi hst)
    obtain ⟨p, hp, hat⟩ : ∃ p, (s.channels.get k).sequencer.program = some p ∧
        (stepsOf s.loader.programs p)[i]? = some st := by
      have hcur : stepNow s k = some st := hst
      unfold stepNow currentStep at hcur
      cases hp : (s.channels.get k).sequencer.program with
      | none => rw [hp] at hcur; cases hcur
      | some p => rw [hp, hi] at hcur; exact ⟨p, rfl, hcur⟩
    have hends := endStep_open (periodEnv s inp k) .restarted (releasedWork (workOf s inp k)) hi he
    rw [hends] at hd
    obtain ⟨⟨hstate, -, -⟩, hseq, hpacer, hpulse, -, hqueue⟩ := h.enters_step (p := p) hd rfl hp hat rfl
    rw [h.channel, hseq, hpacer, hqueue]
    exact ⟨hstate, rfl, rfl, rfl, rfl, rfl, hpulse, rfl⟩

end Sys2Proof.Machine
end

section
/-! PROOFS. The end of a step by a term or by the operator, and where it leads (R121, R123, R127, R128, R130). -/

namespace Sys2Proof.Machine

/-- The work of a counted period at the end of its step, with its persistence counts, a loop stack and a cycle count (R120,
R127). -/
def endingAs (s : State) (inp : PeriodInput) (k : Fin 4) (terms : List Nat) (stack : List LoopEntry) (cycles : Nat) : Work :=
  { workOf s inp k with
    ch := { measured (periodEnv s inp k) (s.channels.get k) with
      state := .running
      sequencer := { (s.channels.get k).sequencer with
        counters := { countedAfter s inp k with terms := terms }, stack := stack, nextRequest := false, cycles := cycles } } }

/-- That work before the step's destination is resolved. -/
abbrev endingWork (s : State) (inp : PeriodInput) (k : Fin 4) (terms : List Nat) : Work :=
  endingAs s inp k terms (s.channels.get k).sequencer.stack (s.channels.get k).sequencer.cycles

theorem counters_without_request {q : Sequencer} (hn : q.nextRequest = false) (c : Counters) :
    { q with counters := c } = { q with counters := c, nextRequest := false } := by
  rw [← hn]

section
variable {s : State} {inp : PeriodInput} {k : Fin 4} {p i : Nat} {st : Step}

theorem stepNow_of_program (hp : (s.channels.get k).sequencer.program = some p)
    (hi : (s.channels.get k).sequencer.index = some i) (hst : (stepsOf s.loader.programs p)[i]? = some st) :
    stepNow s k = some st := by
  unfold stepNow currentStep; rw [hp, hi]; exact hst

/-- The operator's request ends the step with its persistence counts as they are (R127). -/
theorem RunsOn.ends_by_operator (h : RunsOn s inp k) (hi : (s.channels.get k).sequencer.index = some i)
    (hst : stepNow s k = some st) (hn : (s.channels.get k).sequencer.nextRequest = true) :
    Machine.decided (periodEnv s inp k) (s.channels.get k) = finishStep (periodEnv s inp k) i .operator .next
      (endingWork s inp k (s.channels.get k).sequencer.counters.terms) := by
  have hi' : (countingWork s inp k).ch.sequencer.index = some i := by rw [countingWork_ch]; exact hi
  have hn' : (countingWork s inp k).ch.sequencer.nextRequest = true := by rw [countingWork_ch]; exact hn
  have hq : operatorSequencer (periodEnv s inp k) (countingWork s inp k).ch = { (s.channels.get k).sequencer with
      counters := countedAfter s inp k, nextRequest := false } := by
    unfold operatorSequencer
    rw [countingWork_counted, countingWork_ch]
  rw [h.decided, sequence_operator hi' (countingWork_step.trans hst) hn', hq, countingWork_with]
  rfl

/-- The first term that is met is the one that the sequencer takes (R121). -/
theorem satisfiedIn_some {j : Nat} {x : Term} (hlen : (s.channels.get k).sequencer.counters.terms.length = 3) (hj : j < 3)
    (hx : st.terms[j]? = some x) (hmet : TermMet s inp k j x)
    (hfirst : ∀ (j' : Nat) (y : Term), j' < j → st.terms[j']? = some y → ¬ TermMet s inp k j' y) :
    satisfiedIn (periodEnv s inp k) (countingWork s inp k).ch st = some (1 + j, x.action) := by
  have hold : (s.channels.get k).sequencer.counters.terms[j]? = some _ := List.getElem?_eq_getElem (by omega)
  rw [satisfiedIn_eq]
  refine firstSatisfied_some _ _ 1 _ _ j x _ hx (termCounts_at _ _ _ hx hold) ((termSatisfied_iff hold).2 hmet) ?_
  intro j' y m hj' hy hm
  obtain ⟨n, hn, rfl⟩ := countsAfter_at hy hm
  exact Bool.eq_false_iff.2 fun hx => hfirst j' y hj' hy ((termSatisfied_iff hn).1 hx)

/-- A satisfied term ends the step with its persistence counts updated (R121, R122). -/
theorem RunsOn.ends_by_term (h : RunsOn s inp k) (hi : (s.channels.get k).sequencer.index = some i)
    (hst : stepNow s k = some st) (hn : (s.channels.get k).sequencer.nextRequest = false) {pos : Nat} {act : Action}
    (hsat : satisfiedIn (periodEnv s inp k) (countingWork s inp k).ch st = some (pos, act)) :
    Machine.decided (periodEnv s inp k) (s.channels.get k) = finishStep (periodEnv s inp k) i (termReason pos) act
      (endingWork s inp k (countsAfter s inp k st)) := by
  have hi' : (countingWork s inp k).ch.sequencer.index = some i := by rw [countingWork_ch]; exact hi
  have hn' : (countingWork s inp k).ch.sequencer.nextRequest = false := by rw [countingWork_ch]; exact hn
  rw [h.decided, sequence_term hi' (countingWork_step.trans hst) hn' hsat, countedSequencer_eq, counters_without_request hn,
    countingWork_with]
  rfl

/-- Where the end of the step leads, in the words of the statements (R123). -/
theorem actionDest_endingWork (hp : (s.channels.get k).sequencer.program = some p) (act : Action) (terms : List Nat) :
    actionDest (periodEnv s inp k) i act (endingWork s inp k terms) = destination (stepsOf s.loader.programs p) i act
      (s.channels.get k).sequencer.stack (s.channels.get k).sequencer.cycles := by
  have hsteps : stepsOfChannel (periodEnv s inp k) (endingWork s inp k terms).ch = stepsOf s.loader.programs p := by
    show stepsOf s.loader.programs ((s.channels.get k).sequencer.program.getD 0) = _
    rw [hp]; rfl
  unfold actionDest
  rw [hsteps]
  cases act <;> rfl

/-- The step of the ending work with the cycle count of its destination. -/
theorem cycledWork_endingWork (act : Action) (terms : List Nat) {out : Resolved}
    (hout : actionDest (periodEnv s inp k) i act (endingWork s inp k terms) = out) :
    cycledWork (periodEnv s inp k) i act (endingWork s inp k terms) =
      endingAs s inp k terms (s.channels.get k).sequencer.stack out.cycles := by
  unfold cycledWork; rw [← hout]; rfl

/-- That work with its loop stack emptied. -/
theorem endingAs_no_stack (terms : List Nat) (stack : List LoopEntry) (cycles : Nat) :
    (endingAs s inp k terms stack cycles).withSequencer { (endingAs s inp k terms stack cycles).ch.sequencer with stack := [] } =
      endingAs s inp k terms [] cycles := rfl

end

/-- Emptying the loop stack before a step's end or after it is the same. -/
theorem endStep_stack (e : PeriodEnv) (r : StepEndReason) (w : Work) :
    (endStep e r w).withSequencer { (endStep e r w).ch.sequencer with stack := [] } =
      endStep e r (w.withSequencer { w.ch.sequencer with stack := [] }) := by
  unfold endStep Work.withSequencer
  dsimp only
  split
  · rfl
  · split <;> rfl

/-- A program that finishes makes a secure stop with its loop stack emptied (R130). -/
theorem finishedWork_eq (e : PeriodEnv) (w : Work) :
    finishedWork e w = secureStop e .complete (w.withSequencer { w.ch.sequencer with stack := [] }) := by
  unfold finishedWork secureStop
  rw [← endStep_stack]
  rfl

section
variable {s : State} {inp : PeriodInput} {k : Fin 4} {p i : Nat} {r : StepEndReason} {act : Action} {terms : List Nat}

/-- A step end that leads to the working step `j` (R123, R128). -/
theorem Works.step_ends_in_step (h : Works s k)
    (hd : decided (periodEnv s inp k) (s.channels.get k) = finishStep (periodEnv s inp k) i r act (endingWork s inp k terms))
    (hp : (s.channels.get k).sequencer.program = some p) (hi : (s.channels.get k).sequencer.index = some i)
    (he : (s.channels.get k).sequencer.ended = false) {out : Resolved}
    (hout : actionDest (periodEnv s inp k) i act (endingWork s inp k terms) = out) {j : Nat} {st' : Step}
    (hj : out.dest = .step j) (hst' : (stepsOf s.loader.programs p)[j]? = some st') :
    ((periodOf s inp k).ch.state = .running ∧ (periodOf s inp k).ch.drive = true ∧ (periodOf s inp k).ch.enabled = true) ∧
    (periodOf s inp k).ch.sequencer = ⟨some p, some j, false, out.stack, Counters.zero, false, out.cycles⟩ ∧
    (periodOf s inp k).ch.pacer = ⟨st'.capture, st'.d, 1023⟩ ∧ EntersPulse s k st'.kind (periodOf s inp k).ch ∧
    (periodOf s inp k).ch.regulator.cv = entryCv st'.kind (s.channels.get k).regulator.cv ∧
    (periodState s inp).capture.channels.get k =
      offer (s.capture.channels.get k) (stepEndEntry s k i r (countedAfter s inp k) out.cycles) := by
  have hsteps : (stepsOfChannel (periodEnv s inp k) (endingWork s inp k terms).ch)[j]? = some st' := by
    show (stepsOf s.loader.programs ((s.channels.get k).sequencer.program.getD 0))[j]? = _
    rw [hp]; exact hst'
  rw [finishStep_step (by rw [hout]; exact hj) hsteps, cycledWork_endingWork act terms hout, hout,
    endStep_open (periodEnv s inp k) r (endingAs s inp k terms _ out.cycles) hi he] at hd
  obtain ⟨hstate, hseq, hpacer, hpulse, hcv, hqueue⟩ := h.enters_step hd rfl hp hst' rfl
  rw [hseq, hqueue]
  refine ⟨hstate, ?_, hpacer, hpulse, hcv, rfl⟩
  rw [← hp]; rfl

/-- A step end that finishes the program (R130). -/
theorem Works.step_ends_in_finish (h : Works s k)
    (hd : decided (periodEnv s inp k) (s.channels.get k) = finishStep (periodEnv s inp k) i r act (endingWork s inp k terms))
    (hi : (s.channels.get k).sequencer.index = some i) (he : (s.channels.get k).sequencer.ended = false) {out : Resolved}
    (hout : actionDest (periodEnv s inp k) i act (endingWork s inp k terms) = out) (hf : out.dest = .finish) :
    ((periodOf s inp k).ch.state = .stopping ∧ (periodOf s inp k).ch.endReason = .complete ∧
      (periodOf s inp k).ch.stopRequest = .none ∧ (periodOf s inp k).ch.confirmed = true ∧
      (periodOf s inp k).ch.drive = true ∧ (periodOf s inp k).ch.enabled = true ∧
      (periodOf s inp k).ch.live = LivePair.clear ∧ (periodOf s inp k).ch.staged = StagedPair.clear) ∧
    (periodOf s inp k).ch.sequencer = ⟨(s.channels.get k).sequencer.program, some i, true, [],
      { countedAfter s inp k with terms := terms }, false, out.cycles⟩ ∧
    (periodState s inp).capture.channels.get k = offerAll (s.capture.channels.get k)
      (stepEndEntry s k i .complete (countedAfter s inp k) out.cycles :: sampleEntries s inp k i) := by
  rw [finishStep_finish (by rw [hout]; exact hf), finishedWork_eq, cycledWork_endingWork act terms hout, endingAs_no_stack] at hd
  obtain ⟨hstop, hseq, hqueue⟩ := h.stops_secure hd
  rw [sampledIn_secureStop (i := i) rfl rfl hi rfl] at hqueue
  rw [endStep_open _ _ (endingAs s inp k terms [] out.cycles) hi he] at hseq hqueue
  refine ⟨hstop, ?_, hqueue⟩
  rw [hseq, ← hi]
  rfl

end

/-- Settles O11: the step's end leads to the step or the finish that its destination resolves to. -/
theorem stepEndsByTermOrOperator : Obligations.StepEndsByTermOrOperator := by
  unfold Obligations.StepEndsByTermOrOperator
  intro inp s k p i st r act h hp hi hst he hlen hwhy
  have hnow := stepNow_of_program hp hi hst
  obtain ⟨terms, hd⟩ : ∃ terms, decided (periodEnv s inp k) (s.channels.get k) =
      finishStep (periodEnv s inp k) i r act (endingWork s inp k terms) := by
    rcases hwhy with ⟨hn, rfl, rfl⟩ | ⟨hn, j, x, hx, hmet, hfirst, rfl, hr⟩
    · exact ⟨_, h.ends_by_operator hi hnow hn⟩
    · have hreason : termReason (1 + j.val) = r := by rw [hr]; fin_cases j <;> rfl
      rw [← hreason]
      exact ⟨_, h.ends_by_term hi hnow hn (satisfiedIn_some hlen j.isLt hx hmet hfirst)⟩
  have hout := actionDest_endingWork (inp := inp) (i := i) hp act terms
  dsimp only
  generalize destination (stepsOf s.loader.programs p) i act (s.channels.get k).sequencer.stack
    (s.channels.get k).sequencer.cycles = out at hout ⊢
  refine ⟨periodState s inp, rfl, ?_⟩
  rw [h.1.channel]
  cases hdest : out.dest with
  | step j =>
    obtain ⟨st', hst', -⟩ := actionDest_step (e := periodEnv s inp k) (w := endingWork s inp k terms)
      (by rw [hout]; exact hdest)
    have hst' : (stepsOf s.loader.programs p)[j]? = some st' := by
      have hat : (stepsOf s.loader.programs ((s.channels.get k).sequencer.program.getD 0))[j]? = some st' := hst'
      rw [hp] at hat; exact hat
    obtain ⟨⟨hstate, hdrive, henabled⟩, hseq, hpacer, hpulse, hcv, hqueue⟩ :=
      h.1.step_ends_in_step hd hp hi he hout hdest hst'
    rw [hseq]
    refine ⟨hdrive, henabled, rfl, rfl, rfl, fun j' st'' hj hst'' => ?_, nofun⟩
    cases hj
    obtain rfl : st' = st'' := Option.some.inj (hst'.symm.trans hst'')
    exact ⟨hstate, rfl, rfl, rfl, rfl, hpacer, hpulse, fun vCv iSet hk => by rw [hcv, hk]; rfl, hqueue⟩
  | finish =>
    obtain ⟨⟨hstate, hreason, hreq, hconf, hdrive, henabled, hlive, hstaged⟩, hseq, hqueue⟩ :=
      h.1.step_ends_in_finish hd hi he hout hdest
    rw [hseq]
    exact ⟨hdrive, henabled, hp, rfl, rfl, nofun,
      fun _ => ⟨hstate, hreason, hreq, hconf, rfl, rfl, rfl, hlive, hstaged, hqueue⟩⟩

end Sys2Proof.Machine
end

section
/-! PROOFS. The end of CLOSING by closed feedback (R81, R90, R117, R118, R141). -/

namespace Sys2Proof.Machine

/-- The work of a CLOSING period with closed feedback, its CHANNEL_START entry made (R90). -/
abbrev closedOf (s : State) (inp : PeriodInput) (k : Fin 4) : Work := closedWork (periodEnv s inp k) (workOf s inp k)

/-! ### What every end of CLOSING makes -/

/-- Where no step is current and the pacer is OFF, a secure stop makes no entry and leaves the close time. -/
theorem secureStop_makes_nothing {e : PeriodEnv} {r : EndReason} {w : Work} (hi : w.ch.sequencer.index = none)
    (hp : w.ch.pacer = Pacer.off) : (secureStop e r w).faults = w.faults ∧ (secureStop e r w).ends = w.ends ∧
    (secureStop e r w).runs = w.runs ∧ sampledIn e (secureStop e r w) = [] ∧
    (secureStop e r w).ch.lastClose = w.ch.lastClose := by
  have hends := endStep_no_entry (e := e) (r := secureReason r) (w := w) (.inl hi)
  rw [sampledIn_off e (by rw [secureStop_touches]; exact hp), secureStop_touches]
  exact ⟨rfl, hends, rfl, rfl, rfl⟩

/-- So it is where a program starts. -/
theorem Started.makes_nothing {e : PeriodEnv} {w w' : Work} (h : Started e w w') (hi : w.ch.sequencer.index = none)
    (hp : w.ch.pacer = Pacer.off) : w'.faults = w.faults ∧ w'.ends = w.ends ∧ w'.runs = w.runs ∧ sampledIn e w' = [] ∧
    w'.ch.lastClose = w.ch.lastClose := by
  cases h with
  | finishes hd => exact secureStop_makes_nothing hi hp
  | held j st hs hh =>
    refine ⟨rfl, rfl, rfl, sampledIn_entered e rfl, ?_⟩
    dsimp only
    rw [enterHeld_touches]
    unfold startedWork
    rw [enterStep_touches]
  | runs j st hs hh =>
    refine ⟨rfl, rfl, rfl, sampledIn_entered e rfl, ?_⟩
    unfold startedWork
    rw [enterStep_touches]
    rfl

section
variable {s : State} {inp : PeriodInput} {k : Fin 4}

/-- What the channel invariant says in CLOSING: no step is current, the pairs are clear, the pacer is OFF. -/
theorem closing_of_inv {ch : Channel} (h : ChannelInv ch) (hs : ch.state = .closing) :
    ch.sequencer.index = none ∧ ch.live = LivePair.clear ∧ ch.staged = StagedPair.clear ∧ ch.pacer = Pacer.off := by
  obtain ⟨-, -, hpairs, -, -, -, hclosing, -⟩ := h
  obtain ⟨hlive, hstaged⟩ := hpairs (by rw [hs]; decide) (by rw [hs]; decide)
  obtain ⟨hindex, -, hpacer⟩ := hclosing hs
  exact ⟨hindex, hlive, hstaged, hpacer⟩

/-- A CLOSING channel with closed feedback stops at a posted secure stop and else starts its program (R81). -/
theorem decided_closed_feedback (hs : (s.channels.get k).state = .closing) (hr : (s.channels.get k).stopRequest ≠ .fast)
    (hc : causesOf s inp k = []) (hf : closedAfter s inp k = true) :
    (∀ r, (s.channels.get k).stopRequest = .secure r → decided (periodEnv s inp k) (s.channels.get k) =
      secureStop (periodEnv s inp k) r (closedOf s inp k)) ∧
    ((s.channels.get k).stopRequest = .none → decided (periodEnv s inp k) (s.channels.get k) =
      startProgram (periodEnv s inp k) (closedOf s inp k)) := by
  have hd := decided_closing hs hr hc
  refine ⟨fun r hreq => hd.trans ?_, fun hreq => hd.trans ?_⟩
  · exact closingWork_secure (e := periodEnv s inp k) (w := workOf s inp k) hf hreq
  · exact closingWork_start (e := periodEnv s inp k) (w := workOf s inp k) hf
      fun r hx => absurd (hreq.symm.trans hx) nofun

/-- Every end of CLOSING by closed feedback records the close time and offers the CHANNEL_START entry alone (R81, R90). -/
theorem Works.ends_closing (h : Works s k) (hinv : ChannelInv (s.channels.get k)) (hs : (s.channels.get k).state = .closing)
    (hr : (s.channels.get k).stopRequest ≠ .fast) (hc : causesOf s inp k = []) (hf : closedAfter s inp k = true) :
    (periodOf s inp k).ch.lastClose = (s.channels.get k).closeTimer + 1 ∧
    (periodState s inp).capture.channels.get k = offer (s.capture.channels.get k) (channelStartEntry s k) := by
  obtain ⟨hindex, -, -, hpacer⟩ := closing_of_inv hinv hs
  obtain ⟨hsecure, hstart⟩ := decided_closed_feedback hs hr hc hf
  have hmade : ∃ w, decided (periodEnv s inp k) (s.channels.get k) = w ∧ w.faults = (closedOf s inp k).faults ∧
      w.ends = (closedOf s inp k).ends ∧ w.runs = (closedOf s inp k).runs ∧ sampledIn (periodEnv s inp k) w = [] ∧
      w.ch.lastClose = (closedOf s inp k).ch.lastClose := by
    cases hreq : (s.channels.get k).stopRequest with
    | fast => exact absurd hreq hr
    | secure r => exact ⟨_, hsecure r hreq, secureStop_makes_nothing (w := closedOf s inp k) hindex hpacer⟩
    | none =>
      exact ⟨_, hstart hreq, (startProgram_cases (periodEnv s inp k) (closedOf s inp k)).makes_nothing hindex hpacer⟩
  obtain ⟨w, hd, hfaults, hends, hruns, hsamples, hclose⟩ := hmade
  rw [period_lastClose, h.queue, channelPeriod_entries, hd, hfaults, hends, hruns, hsamples, hclose]
  exact ⟨rfl, rfl⟩

/-- An end of CLOSING in STOPPING (R81, R85). -/
theorem Works.closing_stops (h : Works s k) {r : EndReason} (hindex : (s.channels.get k).sequencer.index = none)
    (hd : decided (periodEnv s inp k) (s.channels.get k) = secureStop (periodEnv s inp k) r (closedOf s inp k)) :
    (periodOf s inp k).ch.state = .stopping ∧ (periodOf s inp k).ch.endReason = r ∧
    (periodOf s inp k).ch.stopRequest = .none ∧ (periodOf s inp k).ch.sequencer.index = none ∧
    (periodOf s inp k).ch.drive = true ∧ (periodOf s inp k).ch.enabled = true := by
  obtain ⟨⟨hstate, hreason, hreq, -, hdrive, henabled, -, -⟩, hseq, -⟩ := h.stops_secure hd
  exact ⟨hstate, hreason, hreq, by rw [hseq]; exact hindex, hdrive, henabled⟩

/-! ### The program's first step (R117, R118) -/

section
variable {p : Nat} {st : Step} {rest : List Step} (hp : (s.channels.get k).sequencer.program = some p)
  (hsteps : stepsOf s.loader.programs p = st :: rest)
include hp hsteps

theorem stepsOfChannel_closed :
    stepsOfChannel (periodEnv s inp k) (closedOf s inp k).ch = st :: rest := by
  show stepsOf s.loader.programs ((s.channels.get k).sequencer.program.getD 0) = _
  rw [hp]; exact hsteps

theorem startDest_working (hk : st.kind.working = true) : startDest (periodEnv s inp k) (closedOf s inp k) =
    ⟨.step 0, (s.channels.get k).sequencer.stack, (s.channels.get k).sequencer.cycles⟩ := by
  unfold startDest
  rw [stepsOfChannel_closed hp hsteps]
  exact resolve_at_working (st := st) rfl hk

theorem startDest_finish (hk : st.kind = .finish) : (startDest (periodEnv s inp k) (closedOf s inp k)).dest = .finish := by
  unfold startDest
  rw [stepsOfChannel_closed hp hsteps, resolve_at_finish (st := st) rfl hk]

end

/-- The pairs after the entry of a step in HELD from clear pairs: a PULSE step is staged (R137, R141). -/
theorem enterHeld_started {e : PeriodEnv} {p : Nat} {st : Step} {stack : List LoopEntry} {cycles : Nat} {w : Work}
    (hp : w.ch.sequencer.program = some p) (hst : (stepsOf e.programs p)[0]? = some st) (hlive : w.ch.live = LivePair.clear) :
    (enterHeld e (enterStep 0 st stack cycles w).ch).live = LivePair.clear ∧
    (∀ a b n, st.kind = .pulse a b n → (enterHeld e (enterStep 0 st stack cycles w).ch).staged = ⟨true, a, b, n⟩) ∧
    ((∀ a b n, st.kind ≠ .pulse a b n) → (enterHeld e (enterStep 0 st stack cycles w).ch).staged = StagedPair.clear) := by
  have hcur := enterStep_current (stack := stack) (cycles := cycles) hp hst
  have hpulse : ∀ a b n, st.kind = .pulse a b n → (enterHeld e (enterStep 0 st stack cycles w).ch).live = LivePair.clear ∧
      (enterHeld e (enterStep 0 st stack cycles w).ch).staged = ⟨true, a, b, n⟩ := fun a b n hk => by
    obtain ⟨hl, hg⟩ := enterHeld_pulse hcur hk
    rw [hl, hg, enterStep_touches, hk, stagePulse_pulse]
    dsimp only
    rw [hlive]
    exact ⟨rfl, by split <;> rfl⟩
  have hother : (∀ a b n, st.kind ≠ .pulse a b n) →
      (enterHeld e (enterStep 0 st stack cycles w).ch).live = LivePair.clear ∧
      (enterHeld e (enterStep 0 st stack cycles w).ch).staged = StagedPair.clear := fun hk => by
    obtain ⟨hl, hg⟩ := enterHeld_other hcur hk
    rw [hl, hg, enterStep_touches, stagePulse_other hk]
    exact ⟨rfl, rfl⟩
  refine ⟨?_, fun a b n hk => (hpulse a b n hk).2, fun hk => (hother hk).2⟩
  by_cases hk : ∃ a b n, st.kind = .pulse a b n
  · obtain ⟨a, b, n, hk⟩ := hk
    exact (hpulse a b n hk).1
  · exact (hother fun a b n hx => hk ⟨a, b, n, hx⟩).1

/-- A program starts in its working step 0, HELD under a hold and else RUNNING (R81, R117). -/
theorem Works.starts_step (h : Works s k) {p : Nat} {st : Step} (hlive : (s.channels.get k).live = LivePair.clear)
    (hp : (s.channels.get k).sequencer.program = some p) (hst : (stepsOf s.loader.programs p)[0]? = some st)
    (hd : decided (periodEnv s inp k) (s.channels.get k) = startProgram (periodEnv s inp k) (closedOf s inp k))
    (hdest : startDest (periodEnv s inp k) (closedOf s inp k) =
      ⟨.step 0, (s.channels.get k).sequencer.stack, (s.channels.get k).sequencer.cycles⟩) :
    ((periodOf s inp k).ch.sequencer.index = some 0 ∧ (periodOf s inp k).ch.sequencer.ended = false ∧
      (periodOf s inp k).ch.sequencer.counters = Counters.zero) ∧
    (periodOf s inp k).ch.pacer = ⟨st.capture, st.d, 1023⟩ ∧
    (HoldSeen s k → (periodOf s inp k).ch.state = .held ∧ (periodOf s inp k).ch.live = LivePair.clear ∧
      (∀ a b n, st.kind = .pulse a b n → (periodOf s inp k).ch.staged = ⟨true, a, b, n⟩) ∧
      ((∀ a b n, st.kind ≠ .pulse a b n) → (periodOf s inp k).ch.staged = StagedPair.clear)) ∧
    (¬ HoldSeen s k → (periodOf s inp k).ch.state = .running ∧ EntersPulse s k st.kind (periodOf s inp k).ch) ∧
    (periodOf s inp k).ch.drive = true ∧ (periodOf s inp k).ch.enabled = true := by
  have hdest' : (startDest (periodEnv s inp k) (closedOf s inp k)).dest = .step 0 := by rw [hdest]
  have hat : (stepsOfChannel (periodEnv s inp k) (closedOf s inp k).ch)[0]? = some st := by
    show (stepsOf s.loader.programs ((s.channels.get k).sequencer.program.getD 0))[0]? = _
    rw [hp]; exact hst
  by_cases hhold : HoldSeen s k
  · have hholds : holds (periodEnv s inp k) (closedOf s inp k).ch = true := holds_iff.2 hhold
    rw [startProgram_held hdest' hat hholds] at hd
    unfold startedWork at hd
    have hheld := h.is_held hd (by dsimp only; rw [enterHeld_touches])
    obtain ⟨hstate, hseq, hpacer, hdrive, henabled, hlive', hstaged, -⟩ := hheld
    obtain ⟨hclear, hpulse, hother⟩ := enterHeld_started (e := periodEnv s inp k) (w := closedOf s inp k)
      (stack := (startDest (periodEnv s inp k) (closedOf s inp k)).stack)
      (cycles := (startDest (periodEnv s inp k) (closedOf s inp k)).cycles) hp hst hlive
    rw [hseq, hpacer, hlive', hstaged]
    dsimp only
    refine ⟨?_, ?_, fun _ => ⟨hstate, hclear, hpulse, hother⟩, fun hx => absurd hhold hx, hdrive, henabled⟩
    · rw [enterHeld_touches, enterStep_touches]; exact ⟨rfl, rfl, rfl⟩
    · rw [enterHeld_touches, enterStep_touches]; rfl
  · have hholds : holds (periodEnv s inp k) (closedOf s inp k).ch = false := Bool.eq_false_iff.2 (mt holds_iff.1 hhold)
    rw [startProgram_running hdest' hat hholds] at hd
    unfold startedWork at hd
    rw [releasedWork_enterStep] at hd
    obtain ⟨⟨hstate, hdrive, henabled⟩, hseq, hpacer, hpulse, -, -⟩ := h.enters_step hd rfl hp hst rfl
    rw [hseq]
    exact ⟨⟨rfl, rfl, rfl⟩, hpacer, fun hx => absurd hx hhold, fun _ => ⟨hstate, hpulse⟩, hdrive, henabled⟩

end

/-- Settles O13: every end of CLOSING, the posted secure stop, a working step 0 and an END step 0. -/
theorem closingEndsByFeedback : Obligations.ClosingEndsByFeedback := by
  unfold Obligations.ClosingEndsByFeedback
  intro inp s k h hinv hs hr hc hf
  obtain ⟨hindex, hlive, -, -⟩ := closing_of_inv hinv hs
  obtain ⟨hsecure, hstart⟩ := decided_closed_feedback hs hr hc hf
  obtain ⟨hclose, hqueue⟩ := h.ends_closing hinv hs hr hc hf
  refine ⟨⟨periodState s inp, rfl, ?every⟩, fun r hreq => ⟨periodState s inp, rfl, ?stops⟩,
    fun p st rest hreq hp hsteps hk => ⟨periodState s inp, rfl, ?starts⟩,
    fun p st rest hreq hp hsteps hk => ⟨periodState s inp, rfl, ?finishes⟩⟩
  all_goals rw [h.channel, hclose, hqueue]
  case every => exact ⟨rfl, rfl⟩
  case stops =>
    obtain ⟨hstate, hreason, hreq', hindex', hdrive, henabled⟩ := h.closing_stops hindex (hsecure r hreq)
    exact ⟨hstate, hreason, hreq', hindex', rfl, hdrive, henabled, rfl⟩
  case starts =>
    have hst : (stepsOf s.loader.programs p)[0]? = some st := by rw [hsteps]; rfl
    obtain ⟨⟨hi, he, hcounters⟩, hpacer, hheld, hruns, hdrive, henabled⟩ :=
      h.starts_step hlive hp hst (hstart hreq) (startDest_working hp hsteps hk)
    exact ⟨hi, he, hcounters, hpacer, hheld, hruns, rfl, hdrive, henabled, rfl⟩
  case finishes =>
    have hd := (hstart hreq).trans (startProgram_finish (startDest_finish hp hsteps hk))
    obtain ⟨hstate, hreason, -, hindex', hdrive, henabled⟩ := h.closing_stops hindex hd
    exact ⟨hstate, hreason, hindex', rfl, hdrive, henabled, rfl⟩

end Sys2Proof.Machine
end
